-- ==== Sys2Proof/Word.lean ====
section
/-! DEFINITION. Word.lean: bytes and bit strings, the plainest arithmetic of the model. -/

namespace Sys2Proof

/-- One byte of a record, a frame, the page store or the settings image. -/
abbrev Byte := BitVec 8

/-- A string of coded bits, first bit sent first (R211). -/
abbrev Bits := List Bool

/-- Division rounded up, as in ⌈a ÷ b⌉. -/
def ceilDiv (a b : Nat) : Nat := (a + b - 1) / b

/-- A saturating count: it stays at its largest value (00_scope, "Conventions"). -/
def satAdd (cap a b : Nat) : Nat := min cap (a + b)

end Sys2Proof
end

