-- ==== Sys2Proof/Syntax.lean ====
section
/-! DEFINITION. Syntax.lean: the commands, one constructor for each row of spec/opcode_table.json, and the types of
their operands. -/

namespace Sys2Proof

/-- R213: the store size strap. -/
inductive StoreSize where
  /-- 512 KiB, 2,048 blocks -/
  | kib512
  /-- 1 MiB, 4,096 blocks -/
  | mib1
deriving DecidableEq, Repr

/-- R213: the link rate strap, in Mbit/s. -/
inductive LinkRate where
  | mbit1 | mbit2 | mbit4 | mbit8
deriving DecidableEq, Repr

/-- R213: the three straps, latched at power-on and at the RESET pin. -/
structure Straps where
  storeSize : StoreSize
  linkRate : LinkRate
  configPresent : Bool
deriving DecidableEq, Repr

/-- The rate set of the telephone lines, in bit/s (00_scope, "Rates"). -/
inductive Rate where
  | r2400 | r4800 | r7200 | r9600 | r12000 | r14400
deriving DecidableEq, Repr

/-- A telephone line, 0–3. -/
abbrev Line := Fin 4

/-- The commands: the rows of spec/opcode_table.json in the table's order. A frame comes as FRAME(kind, content,
check) of R130: the kind is the constructor, `good` says that the check is good. -/
inductive Instr where
  -- resets and the settings load (11)
  | powerOn (straps : Straps)
  | resetPin (straps : Straps)
  | configByteRead (byte : Byte)
  | configReadTimeout
  -- the stream link, inbound (10): the record commands take the oldest record of the input buffer
  | linkRecordArrival (bytes : List Byte)
  | ident
  | clockSet
  | tariffLoad
  | bandLoad
  | dialPlanLoad
  | dialPlanRemove
  | lineSet
  | settingsSet
  | accountOpen
  | accountSetBudget
  | accountSuspend
  | accountResume
  | accountClear
  | accountClose
  | accountRead
  | jobOpen
  | destAdd
  | pageAttach
  | jobClose
  | jobCancel
  | jobRemove
  | jobQuery
  | pageOpen
  | rasterLine
  | pageClose
  | pageAbort
  | flagSet
  | lineStop
  | lineStart
  | lineReset
  | printPause
  | printResume
  | pageRead
  | pageRelease
  | status
  | restart
  | unknownKind
  -- the stream link, outbound (10)
  | outputHoldRelease
  | outboundLinkFree
  -- the scanner port (03)
  | scannerPageStart (width resolution : Nat)
  | scannerPixelLine (pixels : List Bool)
  | scannerPageEnd
  | scannerJam
  -- line interface and pump (06)
  | ring (line : Line)
  | tone (line : Line)
  | dialDone (line : Line)
  | busyTone (line : Line)
  | voice (line : Line)
  | answerTone (line : Line)
  | loopLost (line : Line)
  | carrierLost (line : Line)
  | trained (line : Line) (rate : Rate)
  -- frames of the line procedure (07)
  | caps (line : Line) (good : Bool) (content : List Byte)
  | terms (line : Line) (good : Bool) (content : List Byte)
  | accept (line : Line) (good : Bool) (content : List Byte)
  | decline (line : Line) (good : Bool) (content : List Byte)
  | retrain (line : Line) (good : Bool) (content : List Byte)
  | pageHead (line : Line) (good : Bool) (content : List Byte)
  | block (line : Line) (good : Bool) (content : List Byte)
  | check (line : Line) (good : Bool) (content : List Byte)
  | tally (line : Line) (good : Bool) (content : List Byte)
  | resume (line : Line) (good : Bool) (content : List Byte)
  | wait (line : Line) (good : Bool) (content : List Byte)
  | more (line : Line) (good : Bool) (content : List Byte)
  | last (line : Line) (good : Bool) (content : List Byte)
  | taken (line : Line) (good : Bool) (content : List Byte)
  | reject (line : Line) (good : Bool) (content : List Byte)
  | bye (line : Line) (good : Bool) (content : List Byte)
  -- timers running out (06, 07)
  | dialToneWaitExpiry (line : Line)
  | pumpDialWaitExpiry (line : Line)
  | pauseWaitExpiry (line : Line)
  | answerWaitExpiry (line : Line)
  | capsWaitExpiry (line : Line)
  | termsReplyWaitExpiry (line : Line)
  | trainWaitExpiry (line : Line)
  | tallyWaitExpiry (line : Line)
  | holdTimerExpiry (line : Line)
  | waitKeepaliveExpiry (line : Line)
  | pageWaitExpiry (line : Line)
  | pageEndReplyWaitExpiry (line : Line)
  | ringGapExpiry (line : Line)
  | answerToneWaitExpiry (line : Line)
  | calleeSilenceLimitExpiry (line : Line)
  | lastPageWaitExpiry (line : Line)
  | clearGuardExpiry (line : Line)
  | restartGuardExpiry (line : Line)
  | nextAttemptTime (job index : Nat)
  -- dispatch and charging (05, 08)
  | dispatchPass
  | slotBoundary
  | pulseTimerExpiry (line : Line)
  -- the print engine (09)
  | readyRises
  | readyFalls
  | paperChange (out : Bool)
  | printerJam
  | lineAccepted
  | printHoldTimerExpiry
  | standbyTimerExpiry
  | outputHoldAssert
deriving DecidableEq, Repr

end Sys2Proof
end

