-- ==== Sys2Proof/Config.lean ====
section
/-! DEFINITION. Config.lean: the capacities and lengths of time the manual fixes, the built-in values of the
settings, and the values it leaves open (opaque: nothing in Lean can evaluate them). -/

namespace Sys2Proof.Config

/-- R2: "the block taken may be any block on the list". The place in the free list of the n-th block granted,
taken modulo the list's length. A free value (log entry 5). -/
opaque blockChoice : Nat → Nat

/-- R53 has the LINE_REFUSED notice carry "the page id it named"; a RASTER LINE with an empty body names none. The
byte sent then, by the intake number of the record. A free value (log entry 13). -/
opaque unnamedPage : Nat → Byte

/-- R1, R12: a block is 256 bytes. -/
def blockBytes : Nat := 256
/-- R12: 2,048 bits of coded data in a block. -/
def blockBits : Nat := 2048
/-- R10: page records. -/
def pageRecords : Nat := 128
/-- R60. -/
def jobRecords : Nat := 32
/-- R60. -/
def destRecords : Nat := 256
/-- R61: destinations of one job. -/
def jobDests : Nat := 48
/-- R61: pages of one job. -/
def jobPages : Nat := 64
/-- R87. -/
def planEntries : Nat := 128
/-- R173: ticket slots. -/
def ticketSlots : Nat := 32
/-- R179. -/
def printEntries : Nat := 64
/-- R194. -/
def inputPlaces : Nat := 4
/-- R204. -/
def replyPlaces : Nat := 16
/-- R205. -/
def noticePlaces : Nat := 64
/-- R204. -/
def blockPlaces : Nat := 32
/-- R192: the largest body of a link record. -/
def maxBody : Nat := 2060
/-- R139: blocks of one burst. -/
def burstBlocks : Nat := 32
/-- R208: runs of one RASTER LINE. -/
def maxRuns : Nat := 1020

/-- R77: the default seed, 0x6D21. -/
def seed : Nat := 27937
/-- R11, R34: line counts saturate here. -/
def maxCount16 : Nat := 65535
/-- R62, R165: charged, spent and calls charged saturate here. -/
def maxCount32 : Nat := 4294967295

/-- R110: lengths of the line timers, in ms. -/
def dialToneWait : Nat := 3000
def pumpDialWait : Nat := 20000
def pauseWait : Nat := 2000
def answerWait : Nat := 45000
def capsWait : Nat := 8000
def termsReplyWait : Nat := 6000
def trainWait : Nat := 15000
/-- R140: from the moment the CHECK has gone out. -/
def tallyWait : Nat := 6000
/-- R147. -/
def pageEndReplyWait : Nat := 6000
def keepalive : Nat := 5000
def ringGap : Nat := 6000
def answerToneWait : Nat := 5000
def silenceLimit : Nat := 10000
def lastPageWait : Nat := 5000
def clearGuard : Nat := 2000
/-- R140, R147: resends of a CHECK or a page end. -/
def maxResends : Nat := 3
/-- R141: the round at which the caller steps down. -/
def stepDownRound : Nat := 4
/-- R145: the cumulative hold limit, in ms. -/
def holdLimit : Nat := 60000
/-- R183. -/
def printHold : Nat := 30000
/-- R214. -/
def readWait : Nat := 100
/-- R154: milliseconds of a day. -/
def dayMs : Nat := 86400000
/-- R154: milliseconds of a half-hour slot. -/
def slotMs : Nat := 1800000

end Sys2Proof.Config
end

