-- ==== Sys2Proof/Machine/State.lean ====
section
/-! DEFINITION. State.lean: every piece of state the spec gives the part, as plain data, block by block, and the
machine right after power-on or the RESET pin. -/

namespace Sys2Proof.Machine

/-! ## Pages and the page store (01) -/

/-- 00_scope, "resolution". -/
inductive Resolution where
  | coarse | fine
deriving DecidableEq, Repr

/-- R11. -/
inductive PageSource where
  | scan | link | received
deriving DecidableEq, Repr

/-- R11, R14. SPOILED lasts only within the event that spoils the page. -/
inductive PageState where
  | coding | complete | spoiled | receiving | incomplete
deriving DecidableEq, Repr

/-- R15: the party of a CODING holder. -/
inductive CodingParty where
  | scan | link
  | line (n : Line)
deriving DecidableEq, Repr

/-- R15: one entry of a page's holder list. -/
inductive Holder where
  | coding (party : CodingParty)
  | job (id : Nat)
  | sending (n : Line)
  | print
  | forward
deriving DecidableEq, Repr

/-- R12: a block number and the bits of the block that are used. -/
structure ChainEntry where
  block : Nat
  used : Nat
deriving DecidableEq, Repr

/-- R11: a page record in use. *Coded bits* is computed from the chain (`Page.codedBits`). -/
structure Page where
  id : Nat
  source : PageSource
  state : PageState
  width : Nat
  res : Resolution
  lineCount : Nat
  chain : List ChainEntry
  /-- R13: 32 burst positions, each empty or holding one chain entry -/
  pendingBurst : List (Option ChainEntry)
  adjusted : Nat
  /-- received pages only -/
  tag : List Byte
  /-- received pages only -/
  line : Option Line
  holders : List Holder
deriving DecidableEq, Repr

/-- The Page Store Controller. -/
structure Store where
  /-- R2: unordered, no duplicates; its length is the free count -/
  freeList : List Nat
  /-- the model's own count of the blocks granted, which feeds `Config.blockChoice` (log entry 5) -/
  grants : Nat
  /-- R8 -/
  storeLow : Bool
  /-- R4: the one waiting scan request -/
  scanWaiting : Bool
  /-- R10: the page records in use, by rising page id -/
  pages : List Page
  /-- the attached SRAM: address = block × 256 + offset, in one canonical form (`Memory.wf`) -/
  mem : List Host.Cell
deriving DecidableEq, Repr

/-! ## The span coder and page intake (02, 03) -/

/-- R30. -/
inductive Form where
  | plainOnly | plainDelta
deriving DecidableEq, Repr

/-- What one encoder keeps over a page (R27, R29, R31, R42): K, the reference line as a run list, the refresh
distance, and whether no line of the page has been coded yet (R28, step 1). -/
structure Encoder where
  k : Nat
  ref : List Nat
  dist : Nat
  first : Bool
deriving DecidableEq, Repr

/-- R31: an encode context that is coding. -/
structure Coding where
  page : Nat
  width : Nat
  res : Resolution
  enc : Encoder
  held : Bits
deriving DecidableEq, Repr

/-- R34: a decode context. -/
structure Decoder where
  page : Nat
  width : Nat
  pos : Nat
  ref : List Nat
  lastGood : List Nat
  produced : Nat
  concealed : Nat
deriving DecidableEq, Repr

/-- R45. -/
inductive PortState where
  | idle | scanning | discarding
deriving DecidableEq, Repr

/-- 3.2: one transfer the scanner presents. -/
inductive ScanTransfer where
  | pageStart (width resolution : Nat)
  | pixelLine (pixels : List Bool)
  | pageEnd
deriving DecidableEq, Repr

/-- The Scanner Port. -/
structure Scanner where
  port : PortState
  /-- R45: the transfer that stays with the scanner while stall is asserted -/
  presented : Option ScanTransfer
deriving DecidableEq, Repr

/-! ## Send jobs and destinations (04) -/

/-- R61. -/
inductive Priority where
  | flash | urgent | routine | bulk
deriving DecidableEq, Repr

/-- R70. -/
inductive ReleaseMode where
  | always | held | whenAll | whenNotAll
deriving DecidableEq, Repr

/-- R61. -/
inductive JobState where
  | opened | closed | done | cancelled
deriving DecidableEq, Repr

/-- R80. -/
inductive Strength where
  | afterPage | now
deriving DecidableEq, Repr

/-- R74 and R122, in the order of the table of R74, then RESTART. -/
inductive CallOutcome where
  | noTone | busy | noAnswer | notFax
  | linePoor | remoteGone | heldTooLong | declined | pageRejected | partSent
  | noRoute | barred
  | accountHeld
  | cancelled | lineReset | done
  | restart
deriving DecidableEq, Repr

/-- R72. -/
inductive DestState where
  | pending | waitingRetry | heldAccount | bound | done | failed | cancelled
deriving DecidableEq, Repr

/-- R90: translated digits, class and line mask. -/
structure Route where
  digits : List Byte
  cls : Fin 8
  mask : BitVec 4
deriving DecidableEq, Repr

/-- R62, R78: a destination's next attempt time. -/
inductive NextAttempt where
  /-- the expiry is held for the time, on the 1 ms timebase -/
  | waits (till : Nat)
  /-- the time has come: the expiry has been taken -/
  | come
deriving DecidableEq, Repr

/-- R62: a destination record. Its index is its place in the job's destination list. -/
structure Dest where
  dial : List Byte
  state : DestState
  attempts : Nat
  nextAttempt : Option NextAttempt
  delivered : Nat
  lastOutcome : Option CallOutcome
  route : Option Route
  line : Option Line
  tag : Option (List Byte)
  charged : Nat
deriving DecidableEq, Repr

/-- R61: a job record. -/
structure Job where
  id : Nat
  account : Fin 64
  priority : Priority
  mode : ReleaseMode
  mask : BitVec 16
  gateNotice : Bool
  retryLimit : Nat
  /-- in seconds -/
  retryBase : Nat
  /-- in seconds -/
  pageWait : Nat
  state : JobState
  cancelling : Option Strength
  released : Bool
  submission : Nat
  pages : List Nat
  dests : List Dest
deriving DecidableEq, Repr

/-- The Job Table: its jobs (their order means nothing, R60) and the submission counter (R63). -/
structure JobTable where
  jobs : List Job
  submission : Nat
deriving DecidableEq, Repr

/-! ## Dial plan and dispatch (05) -/

/-- R87. -/
structure DialEntry where
  pfx : List Byte
  cls : Fin 8
  strip : Nat
  prepend : List Byte
  mask : BitVec 4
  barred : Bool
deriving DecidableEq, Repr

/-- R92. -/
inductive LineMode where
  | both | send | receive
deriving DecidableEq, Repr

/-- R92: one entry of the line table. -/
structure LineEntry where
  mode : LineMode
  rings : Nat
  ceiling : Rate
  inService : Bool
  stopPending : Bool
deriving DecidableEq, Repr

/-- One value for each of the lines 0–3. -/
structure PerLine (α : Type) where
  l0 : α
  l1 : α
  l2 : α
  l3 : α
deriving DecidableEq, Repr

/-- The Dispatcher. -/
structure Dispatcher where
  /-- R87 -/
  plan : List DialEntry
  /-- R92 -/
  lineTable : PerLine LineEntry
  /-- R95: bit n is condition flag number n -/
  flags : BitVec 16
  /-- R99 -/
  passRequest : Bool
  /-- R77 -/
  lfsr : BitVec 16
deriving DecidableEq, Repr

/-! ## Settings (10, R200) -/

/-- R177. -/
inductive Routing where
  | print | forward | both
deriving DecidableEq, Repr

/-- R200: the settings in force, in the order of their numbers (R209). -/
structure Settings where
  receiveReserve : Nat
  lowMark : Nat
  highMark : Nat
  answerFloor : Nat
  refreshCoarse : Nat
  refreshFine : Nat
  backoffCap : Nat
  seed : BitVec 16
  lineReserve : Nat
  stationTag : List Byte
  hold : Nat
  defaultBand : Fin 4
  routing : Routing
  pageLimit : Nat
  standbyDelay : Nat
deriving DecidableEq, Repr

/-! ## Line channels and the line procedure (06, 07) -/

/-- R107. -/
inductive ChanState where
  | outOfService | idle | ringIn | answering | seize | dial | awaitAnswer | greet | train | send
  | receive | clear
deriving DecidableEq, Repr

/-- R110, R129, R147: the timers of a channel. -/
inductive Timer where
  | dialTone | pumpDial | pause | answer | caps | termsReply | train | tally | pageEndReply
  | hold | keepalive | pageWait | ringGap | answerTone | silence | lastPage | clearGuard
  | restartGuard
deriving DecidableEq, Repr

/-- R131, R133: the remote's capabilities, the content of its CAPS less its tag. -/
structure Caps where
  forms : Form
  maxWidth : Nat
  coarseOnly : Bool
  maxRate : Rate
  /-- minimum line time in ms -/
  minTime : Nat
deriving DecidableEq, Repr

/-- R131. -/
inductive CallerPhase where
  | checking | held | retraining | ending | pageWait
deriving DecidableEq, Repr

/-- R131. -/
inductive CalleePhase where
  | awaitHead | receiving | afterLast
deriving DecidableEq, Repr

/-- R131. -/
inductive PageEndSent where
  | more | last
deriving DecidableEq, Repr

/-- R131: *end after page*. -/
inductive EndCause where
  | cancelled | accountHeld
deriving DecidableEq, Repr

/-- R131: *retrain cause*. -/
inductive RetrainCause where
  | stepDown | remote
deriving DecidableEq, Repr

/-- R108, R131: the call context of an OUTGOING call, the caller's procedure fields with it. -/
structure OutCall where
  job : Nat
  dest : Nat
  route : Route
  account : Fin 64
  answered : Bool
  /-- in DIAL -/
  dialPos : Option Nat
  rate : Option Rate
  tag : Option (List Byte)
  ceiling : Option Rate
  retraining : Bool
  caps : Option Caps
  form : Option Form
  phase : Option CallerPhase
  /-- the burst buffer: the data of the positions in use, position 0 first (R131, R139) -/
  burst : List (List Byte)
  /-- bit n: the last tally read lists position n as missing -/
  missing : BitVec 32
  rounds : Nat
  burstBit : Bool
  pageBit : Bool
  pageEnd : Option PageEndSent
  /-- milliseconds held in this call -/
  holdTotal : Nat
  endAfter : Option EndCause
  retrainCause : Option RetrainCause
  /-- the model's own, implied by R133: TERMS has been sent -/
  termsSent : Bool
  /-- the model's own, implied by R140 and R147: CHECKs or page ends sent again on an expiry -/
  resends : Nat
  /-- the model's own, implied by R145: the time of the TALLY that began the hold -/
  holdStart : Nat
  /-- the model's own, implied by R140: a burst has been packed in this call -/
  anyBurst : Bool
  /-- the model's own, implied by R147: a page has been opened in this call -/
  anyPage : Bool
deriving DecidableEq, Repr

/-- R108, R131: the call context of an INCOMING call, the callee's procedure fields with it. -/
structure InCall where
  rate : Option Rate
  tag : Option (List Byte)
  /-- the page that is RECEIVING -/
  page : Option Nat
  ceiling : Option Rate
  retraining : Bool
  offered : Option Rate
  phase : Option CalleePhase
  holding : Bool
  burstDone : Bool
  completedBit : Option Bool
deriving DecidableEq, Repr

/-- R108: the call context, by direction. -/
inductive Call where
  | outgoing (c : OutCall)
  | incoming (c : InCall)
deriving DecidableEq, Repr

/-- R41. -/
inductive RecMode where
  | copy | recode
deriving DecidableEq, Repr

/-- R43: a Recoder that is preparing a page. -/
structure Recoder where
  page : Nat
  mode : RecMode
  dec : Decoder
  enc : Encoder
  form : Form
  /-- R137: the width lines are cut at -/
  cropTo : Nat
  /-- R137: FINE pairs are merged -/
  merge : Bool
  /-- R138: the remote's minimum line time, ms -/
  minTime : Nat
  /-- R139: bits of a packed line that fall past the end of the last burst -/
  carry : Bits
deriving DecidableEq, Repr

/-- One Line Channel with its Recoder. -/
structure Channel where
  state : ChanState
  /-- R108: present in RING_IN, 1–255 -/
  rings : Option Nat
  call : Option Call
  recoder : Option Recoder
  /-- the timers running, each with its expiry on the 1 ms timebase -/
  timers : List (Timer × Nat)
deriving DecidableEq, Repr

/-! ## Call charging (08) -/

/-- R154. -/
structure Clock where
  day : Nat
  ms : Nat
deriving DecidableEq, Repr

/-- R159. -/
structure TariffEntry where
  connect : Nat
  pulse : Nat
  /-- tenths of a second -/
  period : Nat
deriving DecidableEq, Repr

/-- R165. -/
inductive AccountState where
  | free | opened | suspended
deriving DecidableEq, Repr

/-- R165. -/
structure Account where
  state : AccountState
  budget : Nat
  spent : Nat
  calls : Nat
  atLimit : Bool
deriving DecidableEq, Repr

/-- R160. -/
structure Meter where
  job : Nat
  dest : Nat
  account : Fin 64
  digits : List Byte
  cls : Fin 8
  band : Fin 4
  answerDay : Nat
  answerMs : Nat
  t0 : Nat
  pulses : Nat
  total : Nat
  nextExpiry : Nat
deriving DecidableEq, Repr

/-- R174. -/
structure Ticket where
  account : Fin 64
  job : Nat
  dest : Nat
  line : Line
  cls : Fin 8
  band : Fin 4
  answerDay : Nat
  answerMs : Nat
  duration : Nat
  pulses : Nat
  total : Nat
  outcome : CallOutcome
  digits : List Byte
deriving DecidableEq, Repr

/-- The Charge Unit. -/
structure Charge where
  clock : Clock
  /-- R157: the band in force -/
  band : Fin 4
  /-- R156: 48 slots of WEEKDAY, then of SATURDAY, then of SUNDAY -/
  schedule : Vector (Fin 4) 144
  /-- R159: the entry of class c and band b stands at 4 × c + b -/
  tariff : Vector TariffEntry 32
  /-- R165 -/
  accounts : Vector Account 64
  /-- R160 -/
  meters : PerLine (Option Meter)
  /-- R174, oldest first -/
  tickets : List Ticket
  /-- R173 -/
  slots : Nat
deriving DecidableEq, Repr

/-! ## Received copy and the printer (09) -/

/-- R180. -/
inductive PrintState where
  | idle | printing | held | faulted | standby | waking
deriving DecidableEq, Repr

/-- 9.3: what the port hands the engine and the engine accepts. -/
inductive PrintItem where
  | pageStart (width : Nat) (res : Resolution)
  | line (runs : List Nat)
  | pageEnd
deriving DecidableEq, Repr

/-- R179: one entry of the print queue. -/
structure PrintEntry where
  page : Nat
  limit : Option Nat
  reprints : Nat
deriving DecidableEq, Repr

/-- The Print Controller and the Print Decoder. -/
structure Printer where
  queue : List PrintEntry
  state : PrintState
  paused : Bool
  /-- R190: the level held; `true` is out -/
  paperOut : Bool
  /-- 9.3: the engine's PAPER level; `true` is out -/
  paperPin : Bool
  /-- 9.3: the engine's READY level -/
  readyPin : Bool
  /-- R180: handed and not yet accepted -/
  handed : Option PrintItem
  /-- R183: what an acceptance taken in HELD would hand, waiting for READY to rise -/
  deferred : Option PrintItem
  /-- R40 -/
  decoder : Option Decoder
  /-- R182: lines handed in this printing -/
  linesHanded : Nat
  truncated : Bool
  holdTimer : Option Nat
  standbyTimer : Option Nat
deriving DecidableEq, Repr

/-! ## The stream link (10) -/

/-- R192: a framed record, less its start code, length and check. -/
structure LinkRecord where
  kind : Byte
  tag : Byte
  body : List Byte
deriving DecidableEq, Repr

/-- R192: where the framing stands. -/
inductive Framer where
  /-- hunting for the start code; `true` when the byte just taken is its first byte -/
  | hunt (half : Bool)
  /-- the bytes of a record taken since its start code -/
  | record (got : List Byte)
deriving DecidableEq, Repr

/-- R196: the refusal codes, in the order of R207. -/
inductive RefusalCode where
  | badFormat | unknownKind | notReady | noSuch | duplicate | full | inUse | badValue | state
deriving DecidableEq, Repr

/-- R196: OK with the data the record's rule names, laid out by R209, or one refusal. -/
inductive ReplyResult where
  | ok (data : List Byte)
  | refused (code : RefusalCode)
deriving DecidableEq, Repr

/-- R196. -/
structure Reply where
  kind : Byte
  tag : Byte
  intake : Nat
  result : ReplyResult
deriving DecidableEq, Repr

/-- R57, R18: why a page is spoiled. -/
inductive SpoilReason where
  | jam | aborted | storeFull
deriving DecidableEq, Repr

/-- R53. -/
inductive LineRefusal where
  | notReady | badFormat | notOpen | notLink
deriving DecidableEq, Repr

/-- R123, R126, R127: the cause of a LINE_STATE notice. -/
inductive LineCause where
  | stop | start | reset
deriving DecidableEq, Repr

/-- R184, R186: the cause of a PRINTER_STATE notice. -/
inductive PrinterCause where
  | jam | hold | paper | paperOut | paperPresent
deriving DecidableEq, Repr

/-- R197, R215. -/
inductive SettingsSource where
  | image | defaults
deriving DecidableEq, Repr

/-- R214: why an image is not valid. -/
inductive LoadFailure where
  | notFitted | absent | noAnswer | badSum
deriving DecidableEq, Repr

/-- 10.7: the notices, in the order of their kinds, each with the content its rule gives. -/
inductive Notice where
  | storeLow (free : Nat)
  | storeOk (free : Nat)
  | scanPage (page width : Nat) (res : Resolution)
  | scanRefused (reason : RefusalCode)
  | pageComplete (page : Nat) (source : PageSource) (lines bits adjusted : Nat) (freed : Bool)
  | pageSpoiled (page : Nat) (source : PageSource) (reason : SpoilReason) (lines jobs : Nat)
      (tag : Option Byte)
  | lineRefused (tag page : Byte) (reason : LineRefusal)
  | jobGate (job : Nat) (released : Bool) (flags : BitVec 16)
  | jobDone (job : Nat) (state : JobState) (done failed cancelled charged : Nat)
  | lineState (line : Line) (state : ChanState) (cause : LineCause) (callEnded : Bool)
  | accountLimit (account spent budget calls : Nat)
  | pageReceived (page : Nat) (line : Line) (state : PageState) (width : Nat) (res : Resolution)
      (lines bits entries : Nat) (tag : List Byte) (queued queueFull : Bool)
  | pagePrinted (page : Nat) (line : Line) (tag : List Byte) (state : PageState)
      (lines concealed : Nat) (truncated : Bool) (reprints : Nat) (freed : Bool)
  | printerState (cause : PrinterCause) (page reprints : Option Nat)
  | settingsLoaded (source : SettingsSource) (cause : Option LoadFailure) (restart : Bool)
      (plan accounts skipped : Nat)
  | ready
deriving DecidableEq, Repr

/-- R195: a notice with the intake number as it stood when it was queued. -/
structure NoticeEntry where
  intake : Nat
  notice : Notice
deriving DecidableEq, Repr

/-- R191, R204: one block-data item. -/
structure BlockItem where
  tag : Byte
  page : Nat
  pos : Nat
  used : Nat
  bytes : List Byte
deriving DecidableEq, Repr

/-- R202: the record being sent: its bytes, and the time its last check byte has gone out, rounded up to a
millisecond (log entry 12). -/
structure Sending where
  bytes : List Byte
  doneAt : Nat
deriving DecidableEq, Repr

/-- The Stream Link Controller. -/
structure Link where
  framer : Framer
  /-- R194: whole records, oldest first; an open record of the framer has the next place -/
  input : List LinkRecord
  replies : List Reply
  notices : List NoticeEntry
  blocks : List BlockItem
  /-- R205 -/
  lost : Bool
  /-- R193 -/
  errors : Nat
  /-- R195 -/
  intake : Nat
  sending : Option Sending
  /-- R202: the host's output hold -/
  outputHold : Bool
deriving DecidableEq, Repr

/-! ## The Settings Loader (11) -/

/-- R215: a load in progress. -/
structure Load where
  bytes : List Byte
  sum : BitVec 16
  /-- the expiry of the 100 ms read timer -/
  readTimer : Nat
  /-- whether the load follows a RESTART -/
  restart : Bool
deriving DecidableEq, Repr

structure Loader where
  ready : Bool
  load : Option Load
  /-- R197: the source of the settings in force -/
  source : Option SettingsSource
deriving DecidableEq, Repr

/-! ## What the part gives its partners -/

/-- R109: the seven requests to a pump, and `discardFrames`, which is the model's own. -/
inductive PumpRequest where
  | dial (digits : List Byte)
  | stopDialling
  | answer
  | train (ceiling : Rate)
  /-- head and content, R210 -/
  | frame (bytes : List Byte)
  /-- R152: frames handed but not yet on the line are discarded. DESIGN CHOICE: R109 has no request for it; the model
  shows the discard as an eighth, ahead of the BYE of a NOW (log entry 36) -/
  | discardFrames
  | stop
  | reset
deriving DecidableEq, Repr

/-- 9.3: requests to the print engine. -/
inductive EngineRequest where
  | hand (item : PrintItem)
  | abandon
  | standby
  | wake
deriving DecidableEq, Repr

/-- One signal the part gives. -/
inductive Output where
  /-- R202: a record's bytes, start code to check -/
  | record (bytes : List Byte)
  | offHook (n : Line)
  | onHook (n : Line)
  | pump (n : Line) (r : PumpRequest)
  | engine (r : EngineRequest)
  /-- R46: Refuse, given once for a page start refused -/
  | refuse
  /-- R214: the loader's request for one byte of the configuration memory -/
  | configRead (address : Nat)
deriving DecidableEq, Repr

/-! ## The machine -/

/-- Everything the part holds, and the queue of the commands that are waiting. -/
structure State where
  straps : Straps
  /-- the part's 1 ms count from power-on -/
  timebase : Nat
  settings : Settings
  store : Store
  scanCtx : Option Coding
  linkCtx : Option Coding
  scanner : Scanner
  jobs : JobTable
  disp : Dispatcher
  lines : PerLine Channel
  charge : Charge
  printer : Printer
  link : Link
  loader : Loader
  /-- the model's own: notices of the event that runs, not yet in the queue (R205 orders them) -/
  staged : List Notice
  /-- the model's own: what the part has given its partners, oldest first; nothing reads it -/
  outputs : List Output
  /-- the commands waiting, first in, first out -/
  pending : List Instr
deriving DecidableEq, Repr

/-- Why the part stops. The spec names no such case, so nothing raises a fault: the type is empty. Safe: no run ends
here. -/
inductive Fault : Type
deriving DecidableEq, Repr

/-- Why a command has no meaning in the model. -/
inductive Refusal where
  /-- raised by exec's arm of a command that has no meaning yet; safe (a run stops) -/
  | notModelled (mnemonic : String)
deriving DecidableEq, Repr

/-! ## Reset -/

/-- R213: blocks of the store. -/
def StoreSize.blocks : StoreSize → Nat
  | .kib512 => 2048
  | .mib1 => 4096

/-- The built-in value of every setting (R200). -/
def Settings.builtIn : Settings where
  receiveReserve := 128
  lowMark := 256
  highMark := 512
  answerFloor := 192
  refreshCoarse := 2
  refreshFine := 4
  backoffCap := 3
  seed := BitVec.ofNat 16 Config.seed
  lineReserve := 1
  stationTag := List.replicate 20 32#8
  hold := 10
  defaultBand := 0
  routing := .print
  pageLimit := 4400
  standbyDelay := 300

/-- R92: the built-in entry of every line. -/
def LineEntry.builtIn : LineEntry where
  mode := .both
  rings := 2
  ceiling := .r14400
  inService := true
  stopPending := false

/-- R159: the built-in tariff entry. -/
def TariffEntry.builtIn : TariffEntry := ⟨0, 0, 36000⟩

/-- R165: what a FREE account holds. -/
def Account.unused : Account := ⟨.free, 0, 0, 0, false⟩

/-- The same value for every line. -/
def PerLine.all {α : Type} (a : α) : PerLine α := ⟨a, a, a, a⟩

/-- R20: the store with every block free and every page record unused; the SRAM keeps what it holds. -/
def Store.empty (size : StoreSize) (mem : List Host.Cell) : Store where
  freeList := List.range (StoreSize.blocks size)
  grants := 0
  storeLow := false
  scanWaiting := false
  pages := []
  mem := mem

/-- R129: a channel after a reset. -/
def Channel.reset : Channel := ⟨.outOfService, none, none, none, []⟩

/-- R91, R93, R96–R98, R77: the Dispatcher after power-on and the RESET pin. -/
def Dispatcher.reset : Dispatcher where
  plan := []
  lineTable := PerLine.all LineEntry.builtIn
  flags := 1#16
  passRequest := false
  lfsr := BitVec.ofNat 16 Config.seed

/-- R176: the Charge Unit after power-on and the RESET pin. -/
def Charge.reset : Charge where
  clock := ⟨0, 0⟩
  band := 0
  schedule := Vector.replicate 144 0
  tariff := Vector.replicate 32 TariffEntry.builtIn
  accounts := Vector.replicate 64 Account.unused
  meters := PerLine.all none
  tickets := []
  slots := 0

/-- R190: the Print Controller after power-on and the RESET pin, with the engine's two levels as they are. -/
def Printer.reset (paperPin readyPin : Bool) : Printer where
  queue := []
  state := .idle
  paused := false
  paperOut := false
  paperPin := paperPin
  readyPin := readyPin
  handed := none
  deferred := none
  decoder := none
  linesHanded := 0
  truncated := false
  holdTimer := none
  standbyTimer := none

/-- R206: the Stream Link Controller after power-on and the RESET pin, with the host's output hold as it is. -/
def Link.reset (outputHold : Bool) : Link where
  framer := .hunt false
  input := []
  replies := []
  notices := []
  blocks := []
  lost := false
  errors := 0
  intake := 0
  sending := none
  outputHold := outputHold

/-- The machine right after power-on: the straps latched, every block in its reset state (R218) and the settings load
begun, with no byte read (R215). The levels on the pins are the model's choice (log entries 3 and 8). -/
def State.reset : State where
  straps := ⟨.kib512, .mbit1, true⟩
  timebase := 0
  settings := Settings.builtIn
  store := Store.empty .kib512 []
  scanCtx := none
  linkCtx := none
  scanner := ⟨.idle, none⟩
  jobs := ⟨[], 0⟩
  disp := Dispatcher.reset
  lines := PerLine.all Channel.reset
  charge := Charge.reset
  printer := Printer.reset false false
  link := Link.reset false
  loader := ⟨false, some ⟨[], 0, Config.readWait, false⟩, none⟩
  staged := []
  outputs := []
  pending := []

end Sys2Proof.Machine
end

