-- ==== Sys2Proof/Machine/Ops.lean ====
section
/-! DEFINITION. Ops.lean: the named operations over the memory, the lines, the bits of bytes, the timebase and the
outputs, which every meaning uses. -/

namespace Sys2Proof.Machine

/-! ## One update for each block of the state -/

def State.setTimebase (s : State) (x : Nat) : State := { s with timebase := x }
def State.setStraps (s : State) (x : Straps) : State := { s with straps := x }
def State.setSettings (s : State) (x : Settings) : State := { s with settings := x }
def State.setStore (s : State) (x : Store) : State := { s with store := x }
def State.setScanCtx (s : State) (x : Option Coding) : State := { s with scanCtx := x }
def State.setLinkCtx (s : State) (x : Option Coding) : State := { s with linkCtx := x }
def State.setScanner (s : State) (x : Scanner) : State := { s with scanner := x }
def State.setJobs (s : State) (x : JobTable) : State := { s with jobs := x }
def State.setDisp (s : State) (x : Dispatcher) : State := { s with disp := x }
def State.setLines (s : State) (x : PerLine Channel) : State := { s with lines := x }
def State.setCharge (s : State) (x : Charge) : State := { s with charge := x }
def State.setPrinter (s : State) (x : Printer) : State := { s with printer := x }
def State.setLink (s : State) (x : Link) : State := { s with link := x }
def State.setLoader (s : State) (x : Loader) : State := { s with loader := x }
def State.setStaged (s : State) (x : List Notice) : State := { s with staged := x }
def State.setOutputs (s : State) (x : List Output) : State := { s with outputs := x }
def State.setPending (s : State) (x : List Instr) : State := { s with pending := x }

/-! ## Lines -/

/-- The value of line n. -/
def PerLine.get {α : Type} (p : PerLine α) (n : Line) : α :=
  match n with
  | 0 => p.l0
  | 1 => p.l1
  | 2 => p.l2
  | 3 => p.l3

/-- The value of line n replaced. -/
def PerLine.set {α : Type} (p : PerLine α) (n : Line) (a : α) : PerLine α :=
  match n with
  | 0 => { p with l0 := a }
  | 1 => { p with l1 := a }
  | 2 => { p with l2 := a }
  | 3 => { p with l3 := a }

/-- The four lines, lowest number first. -/
def allLines : List Line := [0, 1, 2, 3]

/-- The four values, line 0 first. -/
def PerLine.toList {α : Type} (p : PerLine α) : List α := [p.l0, p.l1, p.l2, p.l3]

/-- The channel of line n. -/
def State.chan (s : State) (n : Line) : Channel := s.lines.get n

/-- The channel of line n replaced. -/
def State.setChan (s : State) (n : Line) (c : Channel) : State := s.setLines (s.lines.set n c)

/-- Line n in channel state c. -/
def State.setChanState (s : State) (n : Line) (c : ChanState) : State :=
  s.setChan n { s.chan n with state := c }

/-- The call context of line n, where it is of an OUTGOING call. -/
def State.outCall (s : State) (n : Line) : Option OutCall :=
  match (s.chan n).call with
  | some (.outgoing c) => some c
  | _ => none

/-- The call context of line n, where it is of an INCOMING call. -/
def State.inCall (s : State) (n : Line) : Option InCall :=
  match (s.chan n).call with
  | some (.incoming c) => some c
  | _ => none

def State.setOut (s : State) (n : Line) (c : OutCall) : State :=
  s.setChan n { s.chan n with call := some (.outgoing c) }

def State.setIn (s : State) (n : Line) (c : InCall) : State :=
  s.setChan n { s.chan n with call := some (.incoming c) }

/-- The line table's entry of line n (R92). -/
def State.lineEntry (s : State) (n : Line) : LineEntry := s.disp.lineTable.get n

def State.setLineEntry (s : State) (n : Line) (e : LineEntry) : State :=
  s.setDisp { s.disp with lineTable := s.disp.lineTable.set n e }

/-! ## Timers of a channel (R110) -/

/-- When the timer runs out, where it runs. -/
def Channel.deadline (c : Channel) (t : Timer) : Option Nat :=
  (c.timers.find? (fun e => e.1 == t)).map (·.2)

def Channel.stop (c : Channel) (t : Timer) : Channel :=
  { c with timers := c.timers.filter (fun e => e.1 != t) }

def Channel.start (c : Channel) (t : Timer) (at_ : Nat) : Channel :=
  { c.stop t with timers := (t, at_) :: (c.stop t).timers }

/-- Starts the timer of line n to run out `ms` from now. -/
def State.startTimer (s : State) (n : Line) (t : Timer) (ms : Nat) : State :=
  s.setChan n ((s.chan n).start t (s.timebase + ms))

def State.stopTimer (s : State) (n : Line) (t : Timer) : State :=
  s.setChan n ((s.chan n).stop t)

/-- Stops every timer of line n. -/
def State.stopTimers (s : State) (n : Line) : State :=
  s.setChan n { s.chan n with timers := [] }

/-! ## Time (R154) -/

/-- The clock `n` milliseconds later: from 86,399,999 to 0 and the next day, from day 6 to day 0. -/
def Clock.advance (c : Clock) (n : Nat) : Clock :=
  let t := (c.day * Config.dayMs + c.ms + n) % (7 * Config.dayMs)
  ⟨t / Config.dayMs, t % Config.dayMs⟩

/-- The time `t` has come: where it is still ahead, the timebase and the clock move forward to it. -/
def State.moveTo (s : State) (t : Nat) : State :=
  if s.timebase < t then
    (s.setCharge { s.charge with clock := s.charge.clock.advance (t - s.timebase) }).setTimebase t
  else s

/-! ## What the part gives -/

def State.emit (s : State) (o : Output) : State := s.setOutputs (s.outputs ++ [o])

def State.pump (s : State) (n : Line) (r : PumpRequest) : State := s.emit (.pump n r)

/-- A notice of the event that runs; it joins the queue at the end of the event (R205). -/
def State.stage (s : State) (n : Notice) : State := s.setStaged (s.staged ++ [n])

/-! ## Bits and bytes (R211) -/

/-- A number in `w` bits, most significant bit first. -/
def natBits (w n : Nat) : Bits := (List.range w).map (fun i => n.testBit (w - 1 - i))

/-- The number some bits stand for, most significant bit first. -/
def bitsNat (b : Bits) : Nat := b.foldl (fun n x => 2 * n + x.toNat) 0

/-- The bits of a byte, most significant bit first. -/
def byteBits (b : Byte) : Bits := natBits 8 b.toNat

/-- The byte eight bits stand for; fewer bits are completed with one bits (R26). -/
def bitsByte (b : Bits) : Byte :=
  BitVec.ofNat 8 (bitsNat ((b ++ List.replicate 8 true).take 8))

/-- Bits packed into bytes, the last byte completed with one bits (R26). -/
def packBytes : Bits → List Byte
  | [] => []
  | a :: b :: c :: d :: e :: f :: g :: h :: rest =>
    bitsByte [a, b, c, d, e, f, g, h] :: packBytes rest
  | short => [bitsByte short]

def unpackBytes (bs : List Byte) : Bits := bs.flatMap byteBits

/-! ## The memory of the page store -/

/-- What an address nothing was written to reads as (log entry 4). -/
def Memory.blank : Byte := 0#8

def Memory.read : List Host.Cell → Nat → Byte
  | [], _ => Memory.blank
  | (a, b) :: m, x => if a = x then b else Memory.read m x

/-- One byte written; the form stays canonical. -/
def Memory.write : List Host.Cell → Nat → Byte → List Host.Cell
  | [], x, v => if v = Memory.blank then [] else [(x, v)]
  | (a, b) :: m, x, v =>
    if x < a then (if v = Memory.blank then (a, b) :: m else (x, v) :: (a, b) :: m)
    else if x = a then (if v = Memory.blank then m else (x, v) :: m)
    else (a, b) :: Memory.write m x v

/-- The canonical form: addresses strictly rising, no entry equal to what an unlisted address reads as. -/
def Memory.wf : List Host.Cell → Bool
  | [] => true
  | [(_, b)] => b != Memory.blank
  | (a, b) :: (a', b') :: m => b != Memory.blank && a < a' && Memory.wf ((a', b') :: m)

/-- Bytes read one after another from address `x`. -/
def Memory.readBytes (m : List Host.Cell) (x n : Nat) : List Byte :=
  (List.range n).map (fun i => Memory.read m (x + i))

/-- Bytes written one after another from address `x`. -/
def Memory.writeBytes (m : List Host.Cell) (x : Nat) : List Byte → List Host.Cell
  | [] => m
  | v :: vs => Memory.writeBytes (Memory.write m x v) (x + 1) vs

/-- The address of a block's first byte. -/
def blockAddr (block : Nat) : Nat := block * Config.blockBytes

/-- The first `used` bits of a block. -/
def Memory.blockBits (m : List Host.Cell) (block used : Nat) : Bits :=
  (unpackBytes (Memory.readBytes m (blockAddr block) (ceilDiv used 8))).take used

/-- Bits written into a block from bit `off` on; the other bits of the bytes touched stay as they were. -/
def Memory.writeBits (m : List Host.Cell) (block off : Nat) (bits : Bits) : List Host.Cell :=
  if bits = [] then m
  else
    let first := blockAddr block + off / 8
    let front := (byteBits (Memory.read m first)).take (off % 8) ++ bits
    let n := ceilDiv front.length 8
    let rest := (byteBits (Memory.read m (first + (n - 1)))).drop (front.length - 8 * (n - 1))
    Memory.writeBytes m first (packBytes (front ++ rest))

/-! ## Rates -/

def Rate.bps : Rate → Nat
  | .r2400 => 2400
  | .r4800 => 4800
  | .r7200 => 7200
  | .r9600 => 9600
  | .r12000 => 12000
  | .r14400 => 14400

/-- The rate set (00_scope, "Rates"). -/
def Rate.ofBps (n : Nat) : Option Rate :=
  if n = 2400 then some .r2400
  else if n = 4800 then some .r4800
  else if n = 7200 then some .r7200
  else if n = 9600 then some .r9600
  else if n = 12000 then some .r12000
  else if n = 14400 then some .r14400
  else none

/-- The lesser of two rates. -/
def Rate.lesser (a b : Rate) : Rate := if Rate.bps a ≤ Rate.bps b then a else b

/-- R142: the rate of the rate set next below; none below 2,400. -/
def Rate.below : Rate → Option Rate
  | .r2400 => none
  | .r4800 => some .r2400
  | .r7200 => some .r4800
  | .r9600 => some .r7200
  | .r12000 => some .r9600
  | .r14400 => some .r12000

/-- R202: Mbit/s. -/
def LinkRate.mbit : LinkRate → Nat
  | .mbit1 => 1
  | .mbit2 => 2
  | .mbit4 => 4
  | .mbit8 => 8

/-! ## Sorting, for the orders the spec names -/

/-- A list in the order of `le`, equal keys in their old order. -/
def sortInsert {α : Type} (le : α → α → Bool) (x : α) : List α → List α
  | [] => [x]
  | y :: ys => if le y x then y :: sortInsert le x ys else x :: y :: ys

def stableSort {α : Type} (le : α → α → Bool) (l : List α) : List α :=
  l.foldl (fun acc x => sortInsert le x acc) []

end Sys2Proof.Machine
end

