-- ==== Sys2Proof/Machine/Flags.lean ====
section
/-! DEFINITION. Flags.lean: the sixteen condition flags (5.3), the release condition and its evaluation (R70, R71). -/

namespace Sys2Proof.Machine

/-! ## The flags' numbers (5.3) -/

def flagStoreLow : Nat := 4
def flagPaperOut : Nat := 5
def flagPrintBusy : Nat := 6
def flagClockSet : Nat := 7
def flagLineFree (n : Line) : Nat := 8 + n.val
def flagHoliday : Nat := 15

/-- R198: DESK0–DESK2 and HOLIDAY, numbers 12–15. -/
def hostFlags : BitVec 16 := 0xF000#16

/-- Flag number i set or cleared. -/
def putFlag (f : BitVec 16) (i : Nat) (v : Bool) : BitVec 16 :=
  if v then f ||| (1#16 <<< i) else f &&& ~~~(1#16 <<< i)

/-- R96: exactly the flag of the band in force among BAND0–BAND3. -/
def putBand (f : BitVec 16) (b : Fin 4) : BitVec 16 :=
  (f &&& 0xFFF0#16) ||| (1#16 <<< b.val)

/-- Whether flag number i is set. -/
def State.flag (s : State) (i : Nat) : Bool := s.disp.flags.getLsbD i

/-- R95: a report of a flag's source. -/
def State.putFlag (s : State) (i : Nat) (v : Bool) : State :=
  s.setDisp { s.disp with flags := Machine.putFlag s.disp.flags i v }

/-- R99: a pass request stands. -/
def State.requestPass (s : State) : State := s.setDisp { s.disp with passRequest := true }

/-! ## Release (R70, R71) -/

/-- R70: the release condition over the flags. -/
def releaseCondition (mode : ReleaseMode) (mask flags : BitVec 16) : Bool :=
  match mode with
  | .always => true
  | .held => false
  | .whenAll => flags &&& mask == mask
  | .whenNotAll => flags &&& mask != mask

/-- R70: a job whose condition is evaluated: OPEN or CLOSED, with no cancel pending. -/
def Job.evaluated (j : Job) : Bool :=
  (j.state == .opened || j.state == .closed) && j.cancelling == none

/-- The job with *released* as its condition gives it. -/
def Job.evaluate (j : Job) (flags : BitVec 16) : Job :=
  if j.evaluated then { j with released := releaseCondition j.mode j.mask flags } else j

/-- R71: the JOB_GATE notices of the jobs whose *released* changes. -/
def gateNotices (flags : BitVec 16) (jobs : List Job) : List Notice :=
  jobs.filterMap fun j =>
    let j' := j.evaluate flags
    if j.gateNotice && j'.released != j.released then some (.jobGate j.id j'.released flags)
    else none

/-- R70, R71: one evaluation at the end of an event, `before` the flags as the event found them. Flags that changed and
changed back have not changed (R95). -/
def State.evaluateReleases (s : State) (before : BitVec 16) : State :=
  if s.disp.flags = before then s
  else
    let jobs := s.jobs.jobs
    let jobs' := jobs.map (·.evaluate s.disp.flags)
    let opened := (jobs.zip jobs').any (fun p => !p.1.released && p.2.released)
    let s1 := (s.setJobs { s.jobs with jobs := jobs' }).setStaged
      (s.staged ++ gateNotices s.disp.flags jobs)
    if opened then s1.requestPass else s1

end Sys2Proof.Machine
end

