-- ==== Sys2Proof/Machine/Operands.lean ====
section
/-! DEFINITION. Operands.lean: the layouts of 10.9: how a field is laid out in a record, frame or image (R207–R210,
R212), and how the bodies of the records and the contents of the frames are read. -/

namespace Sys2Proof.Machine

/-! ## Laying fields out (R209): high byte first (R207) -/

def num1 (n : Nat) : List Byte := [BitVec.ofNat 8 n]
def num2 (n : Nat) : List Byte := [BitVec.ofNat 8 (n / 256), BitVec.ofNat 8 n]
def num4 (n : Nat) : List Byte := num2 (n / 65536) ++ num2 (n % 65536)
def num6 (n : Nat) : List Byte := num2 (n / 4294967296) ++ num4 (n % 4294967296)
def yesNo (b : Bool) : List Byte := num1 b.toNat
def text (cs : List Byte) : List Byte := num1 cs.length ++ cs
/-- A field that may be absent. -/
def maybe {α : Type} (f : α → List Byte) : Option α → List Byte
  | none => [0#8]
  | some a => 1#8 :: f a
def flagSet (f : BitVec 16) : List Byte := num2 f.toNat

/-! ## Named sets (R209) -/

def Resolution.code : Resolution → Nat
  | .coarse => 0
  | .fine => 1
def Resolution.ofCode (n : Nat) : Option Resolution :=
  if n = 0 then some .coarse else if n = 1 then some .fine else none
def PageSource.code : PageSource → Nat
  | .scan => 0
  | .link => 1
  | .received => 2
/-- The order of R11. -/
def PageState.code : PageState → Nat
  | .coding => 0
  | .complete => 1
  | .spoiled => 2
  | .receiving => 3
  | .incomplete => 4
/-- The order of R18. -/
def SpoilReason.code : SpoilReason → Nat
  | .jam => 0
  | .aborted => 1
  | .storeFull => 2
/-- The order of the table of R53. -/
def LineRefusal.code : LineRefusal → Nat
  | .notReady => 0
  | .badFormat => 1
  | .notOpen => 2
  | .notLink => 3
def Priority.code : Priority → Nat
  | .flash => 0
  | .urgent => 1
  | .routine => 2
  | .bulk => 3
def Priority.ofCode (n : Nat) : Option Priority :=
  if n = 0 then some .flash else if n = 1 then some .urgent else if n = 2 then some .routine
  else if n = 3 then some .bulk else none
def ReleaseMode.code : ReleaseMode → Nat
  | .always => 0
  | .held => 1
  | .whenAll => 2
  | .whenNotAll => 3
def ReleaseMode.ofCode (n : Nat) : Option ReleaseMode :=
  if n = 0 then some .always else if n = 1 then some .held else if n = 2 then some .whenAll
  else if n = 3 then some .whenNotAll else none
def JobState.code : JobState → Nat
  | .opened => 0
  | .closed => 1
  | .done => 2
  | .cancelled => 3
def Strength.code : Strength → Nat
  | .afterPage => 0
  | .now => 1
def Strength.ofCode (n : Nat) : Option Strength :=
  if n = 0 then some .afterPage else if n = 1 then some .now else none
def DestState.code : DestState → Nat
  | .pending => 0
  | .waitingRetry => 1
  | .heldAccount => 2
  | .bound => 3
  | .done => 4
  | .failed => 5
  | .cancelled => 6
/-- R208: the outcome byte. -/
def CallOutcome.code : CallOutcome → Nat
  | .noTone => 1
  | .busy => 2
  | .noAnswer => 3
  | .notFax => 4
  | .linePoor => 5
  | .remoteGone => 6
  | .heldTooLong => 7
  | .declined => 8
  | .pageRejected => 9
  | .partSent => 10
  | .noRoute => 11
  | .barred => 12
  | .accountHeld => 13
  | .cancelled => 14
  | .lineReset => 15
  | .done => 16
  | .restart => 17
def LineMode.ofCode (n : Nat) : Option LineMode :=
  if n = 0 then some .both else if n = 1 then some .send else if n = 2 then some .receive else none
def Routing.code : Routing → Nat
  | .print => 0
  | .forward => 1
  | .both => 2
def Routing.ofCode (n : Nat) : Option Routing :=
  if n = 0 then some .print else if n = 1 then some .forward else if n = 2 then some .both
  else none
/-- The order of the table of R107. -/
def ChanState.code : ChanState → Nat
  | .outOfService => 0
  | .idle => 1
  | .ringIn => 2
  | .answering => 3
  | .seize => 4
  | .dial => 5
  | .awaitAnswer => 6
  | .greet => 7
  | .train => 8
  | .send => 9
  | .receive => 10
  | .clear => 11
def Call.directionCode : Call → Nat
  | .outgoing _ => 0
  | .incoming _ => 1
def AccountState.code : AccountState → Nat
  | .free => 0
  | .opened => 1
  | .suspended => 2
def PrintState.code : PrintState → Nat
  | .idle => 0
  | .printing => 1
  | .held => 2
  | .faulted => 3
  | .standby => 4
  | .waking => 5
def LineCause.code : LineCause → Nat
  | .stop => 0
  | .start => 1
  | .reset => 2
def PrinterCause.code : PrinterCause → Nat
  | .jam => 0
  | .hold => 1
  | .paper => 2
  | .paperOut => 3
  | .paperPresent => 4
def SettingsSource.code : SettingsSource → Nat
  | .image => 0
  | .defaults => 1
def LoadFailure.code : LoadFailure → Nat
  | .notFitted => 0
  | .absent => 1
  | .noAnswer => 2
  | .badSum => 3
/-- R207: the result byte. -/
def RefusalCode.code : RefusalCode → Nat
  | .badFormat => 1
  | .unknownKind => 2
  | .notReady => 3
  | .noSuch => 4
  | .duplicate => 5
  | .full => 6
  | .inUse => 7
  | .badValue => 8
  | .state => 9
def Form.code : Form → Nat
  | .plainOnly => 0
  | .plainDelta => 1
def Form.ofCode (n : Nat) : Option Form :=
  if n = 0 then some .plainOnly else if n = 1 then some .plainDelta else none

/-! ## Reading fields -/

def get1 : List Byte → Option (Nat × List Byte)
  | a :: r => some (a.toNat, r)
  | _ => none
def get2 : List Byte → Option (Nat × List Byte)
  | a :: b :: r => some (a.toNat * 256 + b.toNat, r)
  | _ => none
def get4 : List Byte → Option (Nat × List Byte)
  | a :: b :: c :: d :: r =>
    some (((a.toNat * 256 + b.toNat) * 256 + c.toNat) * 256 + d.toNat, r)
  | _ => none
/-- A text: a count, then the characters. -/
def getText : List Byte → Option (List Byte × List Byte)
  | n :: r => if n.toNat ≤ r.length then some (r.take n.toNat, r.drop n.toNat) else none
  | _ => none
/-- `n` items, one after another. -/
def getItems {α : Type} (item : List Byte → Option (α × List Byte)) :
    Nat → List Byte → Option (List α × List Byte)
  | 0, b => some ([], b)
  | n + 1, b =>
    match item b with
    | none => none
    | some (x, r) =>
      match getItems item n r with
      | none => none
      | some (xs, r') => some (x :: xs, r')
/-- A list whose count is held in one byte. -/
def getList {α : Type} (item : List Byte → Option (α × List Byte)) (b : List Byte) :
    Option (List α × List Byte) :=
  match get1 b with
  | none => none
  | some (n, r) => getItems item n r
/-- R209: a body whose length differs from that of its fields does not parse. -/
def whole {α : Type} : Option (α × List Byte) → Option α
  | some (a, []) => some a
  | _ => none

/-! ## Characters (R207) -/

def isDigit (c : Byte) : Bool := 48 ≤ c.toNat && c.toNat ≤ 57
/-- `0`–`9`, `*` and `#`. -/
def isDialled (c : Byte) : Bool := isDigit c || c == 42#8 || c == 35#8
/-- The pause `,`. -/
def pauseChar : Byte := 44#8
/-- R64: a dial string. -/
def dialOk (d : List Byte) : Bool :=
  1 ≤ d.length && d.length ≤ 24 && d.all (fun c => isDialled c || c == pauseChar)
/-- R132, R200: a station tag. -/
def tagOk (t : List Byte) : Bool := t.length ≤ 20 && t.all (fun c => 32 ≤ c.toNat && c.toNat ≤ 126)

/-! ## The records the host sends -/

/-- R196, 10.4: the kind numbers. -/
inductive RecordKind where
  | ident | clockSet | tariffLoad | bandLoad | dialPlanLoad | dialPlanRemove | lineSet | settingsSet
  | accountOpen | accountSetBudget | accountSuspend | accountResume | accountClear | accountClose
  | accountRead | jobOpen | destAdd | pageAttach | jobClose | jobCancel | jobRemove | jobQuery
  | pageOpen | rasterLine | pageClose | pageAbort | flagSet | lineStop | lineStart | lineReset
  | printPause | printResume | pageRead | pageRelease | status | restart | unknown
deriving DecidableEq, Repr

/-- 10.4: the kind of a kind byte; the outbound kinds and all others name no record the host may send. -/
def recordKind (k : Byte) : RecordKind :=
  match k.toNat with
  | 0x01 => .ident
  | 0x02 => .clockSet
  | 0x10 => .tariffLoad
  | 0x11 => .bandLoad
  | 0x12 => .dialPlanLoad
  | 0x13 => .dialPlanRemove
  | 0x14 => .lineSet
  | 0x15 => .settingsSet
  | 0x20 => .accountOpen
  | 0x21 => .accountSetBudget
  | 0x22 => .accountSuspend
  | 0x23 => .accountResume
  | 0x24 => .accountClear
  | 0x25 => .accountClose
  | 0x26 => .accountRead
  | 0x30 => .jobOpen
  | 0x31 => .destAdd
  | 0x32 => .pageAttach
  | 0x33 => .jobClose
  | 0x34 => .jobCancel
  | 0x35 => .jobRemove
  | 0x36 => .jobQuery
  | 0x40 => .pageOpen
  | 0x41 => .rasterLine
  | 0x42 => .pageClose
  | 0x43 => .pageAbort
  | 0x50 => .flagSet
  | 0x51 => .lineStop
  | 0x52 => .lineStart
  | 0x53 => .lineReset
  | 0x60 => .printPause
  | 0x61 => .printResume
  | 0x62 => .pageRead
  | 0x63 => .pageRelease
  | 0x70 => .status
  | 0x71 => .restart
  | _ => .unknown

/-- R155: day, millisecond of the day. -/
def parseClockSet (b : List Byte) : Option (Nat × Nat) := do
  let (d, r) ← get1 b
  let (m, r) ← get4 r
  whole (some ((d, m), r))

/-- One entry of a TARIFF LOAD or of the image (R159, R212), as read. -/
structure TariffItem where
  cls : Nat
  band : Nat
  connect : Nat
  pulse : Nat
  period : Nat
deriving DecidableEq, Repr

def getTariffItem (b : List Byte) : Option (TariffItem × List Byte) := do
  let (c, r) ← get1 b
  let (n, r) ← get1 r
  let (k, r) ← get2 r
  let (p, r) ← get2 r
  let (t, r) ← get2 r
  some (⟨c, n, k, p, t⟩, r)

def parseTariffLoad (b : List Byte) : Option (List TariffItem) := whole (getList getTariffItem b)

/-- R156: day type, first slot, bands. -/
def parseBandLoad (b : List Byte) : Option (Nat × Nat × List Nat) := do
  let (d, r) ← get1 b
  let (f, r) ← get1 r
  let (l, r) ← getList get1 r
  whole (some ((d, f, l), r))

/-- One dial plan entry as read (R87, R88). -/
structure DialItem where
  pfx : List Byte
  cls : Nat
  strip : Nat
  prepend : List Byte
  mask : Nat
  barred : Nat
deriving DecidableEq, Repr

def getDialItem (b : List Byte) : Option (DialItem × List Byte) := do
  let (p, r) ← getText b
  let (c, r) ← get1 r
  let (s, r) ← get1 r
  let (q, r) ← getText r
  let (m, r) ← get1 r
  let (x, r) ← get1 r
  some (⟨p, c, s, q, m, x⟩, r)

def parseDialPlanLoad (b : List Byte) : Option DialItem := whole (getDialItem b)
def parseDialPlanRemove (b : List Byte) : Option (List Byte) := whole (getText b)

/-- R93: line, mode, rings to answer, rate ceiling. -/
def parseLineSet (b : List Byte) : Option (Nat × Nat × Nat × Nat) := do
  let (l, r) ← get1 b
  let (m, r) ← get1 r
  let (n, r) ← get1 r
  let (c, r) ← get2 r
  whole (some ((l, m, n, c), r))

/-- A value of one of the settings, as read: a number or a text. -/
inductive SettingValue where
  | num (n : Nat)
  | tag (t : List Byte)
deriving DecidableEq, Repr

/-- R209: the value of setting number k; none where the body is too short or k is no setting's number. -/
def getSetting (k : Nat) (b : List Byte) : Option (SettingValue × List Byte) :=
  if k = 10 then (getText b).map (fun p => (.tag p.1, p.2))
  else if k = 1 ∨ k = 2 ∨ k = 3 ∨ k = 4 ∨ k = 8 ∨ k = 14 ∨ k = 15 then
    (get2 b).map (fun p => (.num p.1, p.2))
  else if k = 5 ∨ k = 6 ∨ k = 7 ∨ k = 9 ∨ k = 11 ∨ k = 12 ∨ k = 13 then
    (get1 b).map (fun p => (.num p.1, p.2))
  else none

/-- What a SETTINGS SET body holds (R200). -/
inductive SettingsBody where
  | pairs (ps : List (Nat × SettingValue))
  | badFormat
  /-- a pair naming no setting of the table: what follows it cannot be read (log entry 27) -/
  | unknownSetting
deriving DecidableEq, Repr

def getPairs : Nat → List Byte → List (Nat × SettingValue) → SettingsBody
  | 0, [], acc => .pairs acc
  | 0, _ :: _, _ => .badFormat
  | n + 1, b, acc =>
    match get1 b with
    | none => .badFormat
    | some (k, r) =>
      if acc.any (fun p => p.1 == k) then .badFormat
      else if k = 0 ∨ 15 < k then .unknownSetting
      else
        match getSetting k r with
        | none => .badFormat
        | some (v, r') => getPairs n r' (acc ++ [(k, v)])

def parseSettings (b : List Byte) : SettingsBody :=
  match get1 b with
  | none => .badFormat
  | some (n, r) => getPairs n r []

/-- An account id, then a budget (R169, R170). -/
def parseAccountBudget (b : List Byte) : Option (Nat × Nat) := do
  let (a, r) ← get1 b
  let (m, r) ← get4 r
  whole (some ((a, m), r))

/-- A body of one number of one byte: an account, a line or a page id. -/
def parseOne (b : List Byte) : Option Nat := whole (get1 b)

/-- A JOB OPEN as read (R64). -/
structure JobOpenBody where
  id : Nat
  account : Nat
  priority : Nat
  mode : Nat
  mask : Nat
  gate : Nat
  limit : Nat
  base : Nat
  wait : Nat
  dials : List (List Byte)
deriving DecidableEq, Repr

def parseJobOpen (b : List Byte) : Option JobOpenBody := do
  let (i, r) ← get2 b
  let (a, r) ← get1 r
  let (p, r) ← get1 r
  let (m, r) ← get1 r
  let (k, r) ← get2 r
  let (g, r) ← get1 r
  let (l, r) ← get1 r
  let (t, r) ← get2 r
  let (w, r) ← get1 r
  let (d, r) ← getList getText r
  whole (some (⟨i, a, p, m, k, g, l, t, w, d⟩, r))

/-- R66. -/
def parseDestAdd (b : List Byte) : Option (Nat × List (List Byte)) := do
  let (i, r) ← get2 b
  let (d, r) ← getList getText r
  whole (some ((i, d), r))

/-- A job id, then one byte: a page (R67), a strength (R80), a first index (R85). -/
def parseJobAnd (b : List Byte) : Option (Nat × Nat) := do
  let (i, r) ← get2 b
  let (x, r) ← get1 r
  whole (some ((i, x), r))

def parseJob (b : List Byte) : Option Nat := whole (get2 b)

/-- R51: width, resolution. -/
def parsePageOpen (b : List Byte) : Option (Nat × Nat) := do
  let (w, r) ← get2 b
  let (x, r) ← get1 r
  whole (some ((w, x), r))

/-- R208: page id and runs; none where the run count exceeds 1,020 or the length does not match it. -/
def parseRasterLine (b : List Byte) : Option (Nat × List Nat) := do
  let (p, r) ← get1 b
  let (n, r) ← get2 r
  if n ≤ Config.maxRuns then
    let (l, r) ← getItems get2 n r
    whole (some ((p, l), r))
  else none

/-- R198: change set, value set. -/
def parseFlagSet (b : List Byte) : Option (BitVec 16 × BitVec 16) := do
  let (c, r) ← get2 b
  let (v, r) ← get2 r
  whole (some ((BitVec.ofNat 16 c, BitVec.ofNat 16 v), r))

/-- R191: page id, first chain position, block count. -/
def parsePageRead (b : List Byte) : Option (Nat × Nat × Nat) := do
  let (p, r) ← get1 b
  let (f, r) ← get2 r
  let (n, r) ← get1 r
  whole (some ((p, f, n), r))

/-! ## Line frames (R130, R210) -/

/-- The frames the part hands to a pump. -/
inductive Frame where
  | caps (maxRate : Rate) (tag : List Byte)
  | terms (form : Form) (ceiling : Rate) (tag : List Byte)
  | accept
  | decline
  | retrain (ceiling : Rate)
  | pageHead (width : Nat) (res : Resolution) (form : Form) (lines : Nat)
  | block (pos : Nat) (data : List Byte)
  | check (last : Nat) (bit : Bool)
  | tally (missing : BitVec 32) (hold : Nat) (bit : Bool)
  | resume
  | wait
  | more (bit : Bool)
  | last (bit : Bool)
  | taken (bit : Bool)
  | reject
  | bye
deriving DecidableEq, Repr

/-- R210: the frame kind. -/
def Frame.kind : Frame → Nat
  | .caps .. => 1
  | .terms .. => 2
  | .accept => 3
  | .decline => 4
  | .retrain .. => 5
  | .pageHead .. => 6
  | .block .. => 7
  | .check .. => 8
  | .tally .. => 9
  | .resume => 10
  | .wait => 11
  | .more .. => 12
  | .last .. => 13
  | .taken .. => 14
  | .reject => 15
  | .bye => 16

/-- R210: the content. The part's CAPS names PLAIN_DELTA, width 2,040, resolutions BOTH and minimum line time 0
(R132). -/
def Frame.content : Frame → List Byte
  | .caps r t => num1 1 ++ num2 2040 ++ num1 1 ++ num2 (Rate.bps r) ++ num1 0 ++ text t
  | .terms f r t => num1 (Form.code f) ++ num2 (Rate.bps r) ++ text t
  | .accept => []
  | .decline => []
  | .retrain r => num2 (Rate.bps r)
  | .pageHead w res f n => num2 w ++ num1 res.code ++ num1 f.code ++ num2 n
  | .block p d => num1 p ++ d
  | .check l b => num1 l ++ yesNo b
  | .tally m h b => num4 m.toNat ++ num1 h ++ yesNo b
  | .resume => []
  | .wait => []
  | .more b => yesNo b
  | .last b => yesNo b
  | .taken b => yesNo b
  | .reject => []
  | .bye => []

/-- R210: head and content. -/
def Frame.bytes (f : Frame) : List Byte := num1 f.kind ++ num2 f.content.length ++ f.content

/-- A frame handed to the pump of line n. -/
def State.sendFrame (s : State) (n : Line) (f : Frame) : State := s.pump n (.frame f.bytes)

/-- R130: a bit field, 0 or 1. -/
def bitOf (n : Nat) : Option Bool := if n = 0 then some false else if n = 1 then some true else none

/-- A width a page can have (R10, R130). -/
def widthOk (w : Nat) : Bool := 256 ≤ w && w ≤ 2040 && w % 8 == 0

/-- R130, R210: the content of a CAPS, within its ranges: the capabilities and the tag. -/
def parseCaps (b : List Byte) : Option (Caps × List Byte) := do
  let (f, r) ← get1 b
  let (w, r) ← get2 r
  let (x, r) ← get1 r
  let (m, r) ← get2 r
  let (t, r) ← get1 r
  let (g, r) ← getText r
  let form ← Form.ofCode f
  let rate ← Rate.ofBps m
  let both ← bitOf x
  if widthOk w && (t == 0 || t == 5 || t == 10 || t == 20 || t == 40) && tagOk g then
    whole (some ((⟨form, w, !both, rate, t⟩, g), r))
  else none

/-- Form, ceiling, tag. -/
def parseTerms (b : List Byte) : Option (Form × Rate × List Byte) := do
  let (f, r) ← get1 b
  let (m, r) ← get2 r
  let (g, r) ← getText r
  let form ← Form.ofCode f
  let rate ← Rate.ofBps m
  if tagOk g then whole (some ((form, rate, g), r)) else none

def parseRetrain (b : List Byte) : Option Rate := do
  let m ← whole (get2 b)
  Rate.ofBps m

/-- Width, resolution, form, line count. -/
def parsePageHead (b : List Byte) : Option (Nat × Resolution × Form × Nat) := do
  let (w, r) ← get2 b
  let (x, r) ← get1 r
  let (f, r) ← get1 r
  let (n, r) ← get2 r
  let res ← Resolution.ofCode x
  let form ← Form.ofCode f
  whole (some ((w, res, form, n), r))

/-- Burst position 0–31, data of 1 byte or more. -/
def parseBlock (b : List Byte) : Option (Nat × List Byte) :=
  match b with
  | p :: d :: ds => if p.toNat ≤ 31 then some (p.toNat, d :: ds) else none
  | _ => none

/-- Last position 0–31, burst bit. -/
def parseCheck (b : List Byte) : Option (Nat × Bool) := do
  let (l, r) ← get1 b
  let (x, r) ← get1 r
  let bit ← bitOf x
  if l ≤ 31 then whole (some ((l, bit), r)) else none

/-- Missing positions, HOLD length in seconds (0: absent), burst bit. -/
def parseTally (b : List Byte) : Option (BitVec 32 × Nat × Bool) := do
  let (m, r) ← get4 b
  let (h, r) ← get1 r
  let (x, r) ← get1 r
  let bit ← bitOf x
  if h ≤ 30 then whole (some ((BitVec.ofNat 32 m, h, bit), r)) else none

def parseBit (b : List Byte) : Option Bool := do
  let x ← whole (get1 b)
  bitOf x

def parseEmpty (b : List Byte) : Option Unit := if b = [] then some () else none

/-- R130: a frame is received when its check is good and its content fits its kind and ranges. -/
def received {α : Type} (good : Bool) (parsed : Option α) : Option α := if good then parsed else none

end Sys2Proof.Machine
end

