-- ==== Sys2Proof/Machine/Link.lean ====
section
/-! DEFINITION. Link.lean: the Stream Link Controller (10): framing, the input buffer, replies, notices, the outbound
records and the arbiter. -/

namespace Sys2Proof.Machine

/-! ## The check of a link record (R207) -/

/-- One bit of the cyclic check with generator 0x1021. -/
def crcShift (c : BitVec 16) : BitVec 16 :=
  if c.getLsbD 15 then (c <<< 1) ^^^ 0x1021#16 else c <<< 1

def crcShifts : Nat → BitVec 16 → BitVec 16
  | 0, c => c
  | n + 1, c => crcShifts n (crcShift c)

def crcByte (c : BitVec 16) (b : Byte) : BitVec 16 :=
  crcShifts 8 (c ^^^ (BitVec.ofNat 16 b.toNat <<< 8))

/-- R207: preset 0xFFFF, no final inversion. -/
def crc16 (bs : List Byte) : BitVec 16 := bs.foldl crcByte 0xFFFF#16

/-- R207: start code, kind, tag, length, body, check. -/
def recordBytes (kind tag : Nat) (body : List Byte) : List Byte :=
  let covered := num1 kind ++ num1 tag ++ num2 body.length ++ body
  [0xA5#8, 0x5A#8] ++ covered ++ num2 (crc16 covered).toNat

/-! ## Framing (R192–R194) -/

/-- R194: the places taken: whole records and the one whose start code has come. -/
def Link.placesTaken (l : Link) : Nat :=
  l.input.length + (match l.framer with | .record _ => 1 | .hunt _ => 0)

/-- R194: asserted while all four places are taken. -/
def Link.inputHold (l : Link) : Bool := Config.inputPlaces ≤ l.placesTaken

/-- R193: the link error count saturates. -/
def Link.countError (l : Link) : Link := { l with errors := satAdd Config.maxCount16 l.errors 1 }

/-- One byte taken into an open record, or into the hunt for a start code. A start code that finds all four places
taken is an overrun (R193). -/
def Link.feedOpen (l : Link) (b : Byte) : Link :=
  match l.framer with
  | .record got => { l with framer := .record (got ++ [b]) }
  | .hunt half =>
    if half && b == 0x5A#8 then
      if l.inputHold then { l.countError with framer := .hunt false }
      else { l with framer := .record [] }
    else { l with framer := .hunt (b == 0xA5#8) }

/-- R192, R193: what a record's bytes so far come to. A bad length is hunted again from the byte after the start code;
a whole record joins the buffer when its check is good. -/
def Link.closeRecord (l : Link) : Link :=
  match l.framer with
  | .hunt _ => l
  | .record got =>
    match got with
    | k :: t :: h :: w :: rest =>
      let n := h.toNat * 256 + w.toNat
      if Config.maxBody < n then
        got.foldl Link.feedOpen { l.countError with framer := .hunt false }
      else if rest.length = n + 2 then
        let body := rest.take n
        if num2 (crc16 (k :: t :: h :: w :: body)).toNat = rest.drop n then
          { l with framer := .hunt false, input := l.input ++ [⟨k, t, body⟩] }
        else { l.countError with framer := .hunt false }
      else l
    | _ => l

/-- One byte arriving on the link. -/
def Link.feed (l : Link) (b : Byte) : Link := (l.feedOpen b).closeRecord

/-! ## Taking records and answering them (R195, R196) -/

/-- The oldest record leaves the buffer and is given the new intake number. -/
def Link.take (l : Link) : Link :=
  { l with input := l.input.tail, intake := (l.intake + 1) % 65536 }

/-- A record is owed a reply, but for a RASTER LINE (R196). -/
def owedReply (r : LinkRecord) : Bool := recordKind r.kind != .rasterLine

/-- R195: a record owed a reply is taken only while the reply queue has a free place. -/
def Link.canTake (l : Link) (r : LinkRecord) : Bool :=
  !owedReply r || l.replies.length < Config.replyPlaces

/-- R196: the reply to a record, with the intake number the record was given. -/
def State.reply (s : State) (r : LinkRecord) (res : ReplyResult) : State :=
  s.setLink { s.link with replies := s.link.replies ++ [⟨r.kind, r.tag, s.link.intake, res⟩] }

def State.replyOk (s : State) (r : LinkRecord) (data : List Byte) : State := s.reply r (.ok data)
def State.refuse (s : State) (r : LinkRecord) (c : RefusalCode) : State := s.reply r (.refused c)

/-! ## Notices (10.7, R205, R209) -/

/-- R209: the notice kinds. -/
def Notice.kind : Notice → Nat
  | .storeLow .. => 1
  | .storeOk .. => 2
  | .scanPage .. => 3
  | .scanRefused .. => 4
  | .pageComplete .. => 5
  | .pageSpoiled .. => 6
  | .lineRefused .. => 7
  | .jobGate .. => 8
  | .jobDone .. => 9
  | .lineState .. => 10
  | .accountLimit .. => 11
  | .pageReceived .. => 12
  | .pagePrinted .. => 13
  | .printerState .. => 14
  | .settingsLoaded .. => 15
  | .ready => 16

/-- R205: the page, job, line or account id a notice carries first; 0 where it carries none. -/
def Notice.key : Notice → Nat
  | .scanPage p .. => p
  | .pageComplete p .. => p
  | .pageSpoiled p .. => p
  | .jobGate j .. => j
  | .jobDone j .. => j
  | .lineState n .. => n.val
  | .accountLimit a .. => a
  | .pageReceived p .. => p
  | .pagePrinted p .. => p
  | .storeLow _ | .storeOk _ | .scanRefused _ | .lineRefused .. | .printerState .. | .settingsLoaded ..
  | .ready => 0

/-- The place of a notice's kind in the order of R205. DEDUCED: the STORE_LOW and STORE_OK of one event share a place, so
they keep the order of the flag's changes, which are steps of the event (log entry 14). -/
def Notice.rank : Notice → Nat
  | .storeOk _ => 1
  | n => n.kind

/-- R205: ascending notice kind, then ascending id. -/
def Notice.before (a b : Notice) : Bool := a.rank < b.rank || (a.rank == b.rank && a.key ≤ b.key)

/-- The content each notice's rule names, laid out by R209 (log entries 21, 23, 24 and 26). -/
def Notice.content : Notice → List Byte
  | .storeLow f => num2 f
  | .storeOk f => num2 f
  | .scanPage p w r => num1 p ++ num2 w ++ num1 r.code
  | .scanRefused c => num1 c.code
  | .pageComplete p s l b a f =>
    num1 p ++ num1 s.code ++ num2 l ++ num4 b ++ num2 a ++ yesNo f
  | .pageSpoiled p s c l j t =>
    num1 p ++ num1 s.code ++ num1 c.code ++ num2 l ++ num1 j ++ maybe (fun x => [x]) t
  | .lineRefused t p c => [t, p] ++ num1 c.code
  | .jobGate j r f => num2 j ++ yesNo r ++ flagSet f
  | .jobDone j s d f c t =>
    num2 j ++ num1 s.code ++ num1 d ++ num1 f ++ num1 c ++ num4 t
  | .lineState n s c e => num1 n.val ++ num1 s.code ++ num1 c.code ++ yesNo e
  | .accountLimit a s b c => num1 a ++ num4 s ++ num4 b ++ num1 c
  | .pageReceived p n s w r l b e t q f =>
    num1 p ++ num1 n.val ++ num1 s.code ++ num2 w ++ num1 r.code ++ num2 l ++ num4 b ++ num2 e
      ++ text t ++ yesNo q ++ yesNo f
  | .pagePrinted p n t s l c x r f =>
    num1 p ++ num1 n.val ++ text t ++ num1 s.code ++ num2 l ++ num2 c ++ yesNo x ++ num1 r
      ++ yesNo f
  | .printerState c p r => num1 c.code ++ maybe num1 p ++ maybe num1 r
  | .settingsLoaded s c r p a k =>
    num1 s.code ++ maybe (fun x => num1 (LoadFailure.code x)) c ++ num1 r.toNat ++ num1 p ++ num1 a
      ++ num2 k
  | .ready => []

/-- R205: a notice joins the tail where a place is free, and is discarded with the lost flag set where none is. -/
def Link.queueNotice (l : Link) (n : Notice) : Link :=
  if l.notices.length < Config.noticePlaces then { l with notices := l.notices ++ [⟨l.intake, n⟩] }
  else { l with lost := true }

/-- R8: the notice of a change of STORE_LOW carries the free count after the event. -/
def Notice.withFree (free : Nat) : Notice → Notice
  | .storeLow _ => .storeLow free
  | .storeOk _ => .storeOk free
  | n => n

/-- The notices staged join the queue in the order of R205. -/
def State.flushNotices (s : State) : State :=
  let ns := stableSort Notice.before (s.staged.map (Notice.withFree s.store.freeList.length))
  (s.setLink (ns.foldl Link.queueNotice s.link)).setStaged []

/-! ## Outbound records (R202–R204, R207–R209) -/

def replyBytes (r : Reply) : List Byte :=
  let body := match r.result with
    | .ok d => num1 0 ++ d
    | .refused c => num1 c.code
  recordBytes 0x80 r.tag.toNat ([r.kind] ++ num2 r.intake ++ body)

def noticeBytes (lost : Bool) (n : NoticeEntry) : List Byte :=
  recordBytes 0x81 0 (num1 n.notice.kind ++ yesNo lost ++ num2 n.intake ++ n.notice.content)

/-- R208: the TICKET body. DESIGN CHOICE: the pulse count and the total are kept exactly and are laid out by their low 32
and 48 bits; R160 gives neither wrap nor saturation for a count that is filled (log entry 29). -/
def ticketBytes (t : Ticket) : List Byte :=
  recordBytes 0x82 0 (num1 t.account.val ++ num2 t.job ++ num1 t.dest ++ num1 t.line.val
    ++ num1 t.cls.val ++ num1 t.band.val ++ num1 t.answerDay ++ num4 t.answerMs
    ++ num4 (min Config.maxCount32 t.duration) ++ num4 t.pulses ++ num6 t.total
    ++ num1 t.outcome.code ++ text t.digits)

def blockItemBytes (b : BlockItem) : List Byte :=
  recordBytes 0x83 b.tag.toNat (num1 b.page ++ num2 b.pos ++ num2 b.used ++ b.bytes)

/-- R202: a record chosen is sent: (8 + L) × 8 bits at the link rate. -/
def State.send (s : State) (bytes : List Byte) : State :=
  let ms := ceilDiv (bytes.length * 8) (LinkRate.mbit s.straps.linkRate * 1000)
  (s.setLink { s.link with sending := some ⟨bytes, s.timebase + ms⟩ }).emit (.record bytes)

/-- R203: the head of the first queue that is not empty leaves it: replies, tickets, notices, block data. A ticket
taken releases its slot and requests a pass (R175); a notice taken carries and clears the lost flag (R205). -/
def State.choose (s : State) : State :=
  match s.link.replies, s.charge.tickets, s.link.notices, s.link.blocks with
  | r :: rs, _, _, _ => (s.setLink { s.link with replies := rs }).send (replyBytes r)
  | [], t :: ts, _, _ =>
    ((s.setCharge { s.charge with tickets := ts, slots := s.charge.slots - 1 }).requestPass).send
      (ticketBytes t)
  | [], [], n :: ns, _ =>
    (s.setLink { s.link with notices := ns, lost := false }).send (noticeBytes s.link.lost n)
  | [], [], [], b :: bs => (s.setLink { s.link with blocks := bs }).send (blockItemBytes b)
  | [], [], [], [] => s

/-- R203: the arbiter chooses in each event in which the link is free and the output hold is released. -/
def State.arbitrate (s : State) : State :=
  if s.link.sending = none ∧ s.link.outputHold = false then s.choose else s

end Sys2Proof.Machine
end

