-- ==== Sys2Proof/Machine/Span.lean ====
section
/-! DEFINITION. Span.lean: the span code (02): run lists, line repair, the symbols, the encoder's choice, decoding and
the concealment of bad lines. -/

namespace Sys2Proof.Machine

/-! ## Runs and pixels (R22) -/

/-- R22, R47: the runs of a line of pixels (black is `true`), `n` pixels of `colour` already counted. -/
def runsFrom (colour : Bool) (n : Nat) : List Bool → List Nat
  | [] => [n]
  | p :: ps => if p = colour then runsFrom colour (n + 1) ps else n :: runsFrom p 1 ps

/-- The run list of a line of pixels, starting with white. -/
def pixelsToRuns (ps : List Bool) : List Nat := runsFrom false 0 ps

def pixelsFrom (colour : Bool) : List Nat → List Bool
  | [] => []
  | r :: rs => List.replicate r colour ++ pixelsFrom (!colour) rs

/-- The pixels of a run list. -/
def runsToPixels (rs : List Nat) : List Bool := pixelsFrom false rs

/-- An all-white line of width w. -/
def whiteLine (w : Nat) : List Nat := [w]

/-- R24: the delta line, exclusive-or with the reference line; kept runs first. -/
def deltaLine (line ref : List Nat) : List Nat :=
  pixelsToRuns (List.zipWith xor (runsToPixels line) (runsToPixels ref))

/-- R22: a first run of 0–W, every later run of 1–W, a sum of W. -/
def validRuns (w : Nat) : List Nat → Bool
  | [] => false
  | r :: rs => rs.all (fun x => 1 ≤ x && x ≤ w) && r ≤ w && (r :: rs).sum == w

/-! ## Line repair (R44) -/

/-- Step 1, merging: `cur` is the run before the ones still to be looked at. -/
def mergeFrom (cur : Nat) : List Nat → List Nat
  | [] => [cur]
  | [0] => [cur]
  | 0 :: b :: rest => mergeFrom (cur + b) rest
  | (a + 1) :: rest => cur :: mergeFrom (a + 1) rest

/-- Runs of 0 in a place other than the first removed; no runs is a single white run of 0. -/
def mergeZeros : List Nat → List Nat
  | [] => [0]
  | r :: rs => mergeFrom r rs

/-- Step 2, padding: a last white run grows, after a last black run a white one is appended. -/
def padRuns (w : Nat) (rs : List Nat) : List Nat :=
  if rs.sum < w then
    if rs.length % 2 = 1 then rs.dropLast ++ [rs.getLastD 0 + (w - rs.sum)]
    else rs ++ [w - rs.sum]
  else rs

/-- Step 3, cutting: the runs kept from the first until their sum reaches w. -/
def cutRuns (w : Nat) : List Nat → List Nat
  | [] => []
  | r :: rs => if w ≤ r then [w] else r :: cutRuns (w - r) rs

/-- The three steps, in order. -/
def repairLine (w : Nat) (rs : List Nat) : List Nat :=
  let p := padRuns w (mergeZeros rs)
  if w < p.sum then cutRuns w p else p

/-! ## Symbols (R25, R211) -/

def markSame : Bits := [false, false]
def markPlain : Bits := [false, true]
def markDelta : Bits := [true, false]
def markFill : Bits := [true, true]

/-- A run of length L, with the one symbol whose range contains L. -/
def runSymbol (l : Nat) : Bits :=
  if l ≤ 7 then false :: natBits 3 l
  else if l ≤ 71 then true :: false :: natBits 6 (l - 8)
  else true :: true :: natBits 11 l

/-- R26: the bits of a PLAIN line. -/
def plainBits (runs : List Nat) : Bits := markPlain ++ runs.flatMap runSymbol

/-- R26: the bits of a DELTA line, from its delta line. -/
def deltaBits (delta : List Nat) : Bits := markDelta ++ delta.flatMap runSymbol

/-! ## The encoder's choice (R28–R30) -/

/-- R27: the interval of a resolution. -/
def refreshInterval (st : Settings) : Resolution → Nat
  | .coarse => st.refreshCoarse
  | .fine => st.refreshFine

/-- An encoder at the start of a page: K latched, an all-white reference, refresh distance 0. -/
def Encoder.begin (k w : Nat) : Encoder := ⟨k, whiteLine w, 0, true⟩

/-- The forms a line can be coded in (R26). -/
inductive LineForm where
  | plain | same | delta
deriving DecidableEq, Repr

/-- R28–R30: the first step that applies; PLAIN under PLAIN_ONLY. -/
def chooseForm (form : Form) (e : Encoder) (line : List Nat) : LineForm :=
  match form with
  | .plainOnly => .plain
  | .plainDelta =>
    if e.first || e.k ≤ e.dist + 1 then .plain
    else if line = e.ref then .same
    else if (deltaBits (deltaLine line e.ref)).length < (plainBits line).length then .delta
    else .plain

/-- The coded line of a form. -/
def codedLine (f : LineForm) (ref line : List Nat) : Bits :=
  match f with
  | .plain => plainBits line
  | .same => markSame
  | .delta => deltaBits (deltaLine line ref)

/-- R28, R29, R32 steps 1 and 2: the coded line, and the encoder with the line as its reference. -/
def encodeLine (form : Form) (e : Encoder) (line : List Nat) : Bits × Encoder :=
  let f := chooseForm form e line
  (codedLine f e.ref line,
    { e with ref := line, dist := if f = .plain then 0 else e.dist + 1, first := false })

/-! ## Decoding (R34–R39) -/

/-- What is found where a run symbol is expected (R36, R37). -/
inductive RunRead where
  /-- a run of length l; the bits after the symbol -/
  | run (l : Nat) (rest : Bits)
  /-- a reserved long run value; the bits after the symbol -/
  | reserved (rest : Bits)
  /-- fewer bits remain than the symbol needs -/
  | short
deriving DecidableEq, Repr

/-- R25, R211: one run symbol. -/
def readRun : Bits → RunRead
  | false :: a :: b :: c :: rest => .run (bitsNat [a, b, c]) rest
  | true :: false :: a :: b :: c :: d :: e :: f :: rest => .run (bitsNat [a, b, c, d, e, f] + 8) rest
  | true :: true :: a :: b :: c :: d :: e :: f :: g :: h :: i :: j :: k :: rest =>
    let v := bitsNat [a, b, c, d, e, f, g, h, i, j, k]
    if 72 ≤ v && v ≤ 2040 then .run v rest else .reserved rest
  | _ => .short

/-- The runs of a PLAIN or DELTA line as read: good, or bad, with the bits that remain after it (R36, R37, R39). -/
inductive RunsRead where
  | good (runs : List Nat) (rest : Bits)
  | bad (rest : Bits)
deriving DecidableEq, Repr

/-- R36, R37: run symbols read until they sum to w. `fuel` bounds the symbols; the bits left are enough. -/
def readRuns (w : Nat) : Nat → Bits → Nat → List Nat → RunsRead
  | 0, _, _, _ => .bad []
  | fuel + 1, bits, sum, acc =>
    if sum = w ∧ acc ≠ [] then .good acc bits
    else
      match readRun bits with
      | .short => .bad []
      | .reserved rest => .bad rest
      | .run l rest =>
        if w < sum + l then .bad rest else readRuns w fuel rest (sum + l) (acc ++ [l])

/-- One line as decoded: its runs, whether it was concealed, the coded line as read (without FILL) and the bits that
remain. -/
structure DecodedLine where
  runs : List Nat
  concealed : Bool
  raw : Bits
  rest : Bits
deriving DecidableEq, Repr

/-- R35–R39: the next line at a line boundary; none where the page ends. FILL before it is skipped. -/
def decodeBits (w : Nat) (ref lastGood : List Nat) : Bits → Option DecodedLine
  | true :: true :: rest => decodeBits w ref lastGood rest
  | false :: false :: rest => some ⟨ref, false, markSame, rest⟩
  | true :: false :: rest =>
    match readRuns w (rest.length + 2) rest 0 [] with
    | .good runs rest' =>
      some ⟨deltaLine (mergeZeros runs) ref, false,
        markDelta ++ rest.take (rest.length - rest'.length), rest'⟩
    | .bad rest' => some ⟨lastGood, true, [], rest'⟩
  | false :: true :: rest =>
    match readRuns w (rest.length + 2) rest 0 [] with
    | .good runs rest' =>
      some ⟨mergeZeros runs, false, markPlain ++ rest.take (rest.length - rest'.length), rest'⟩
    | .bad rest' => some ⟨lastGood, true, [], rest'⟩
  | _ => none

/-- R34: a decode context at the beginning of a page. -/
def Decoder.begin (page w : Nat) : Decoder := ⟨page, w, 0, whiteLine w, whiteLine w, 0, 0⟩

/-- R35–R38: the context after a line, `data` the page's data. -/
def Decoder.after (d : Decoder) (data : Bits) (l : DecodedLine) : Decoder :=
  { d with
    pos := data.length - l.rest.length
    ref := l.runs
    lastGood := l.runs
    produced := satAdd Config.maxCount16 d.produced 1
    concealed := satAdd Config.maxCount16 d.concealed (if l.concealed then 1 else 0) }

/-- The next line of the page's data and the context after it; none where the page has ended. -/
def Decoder.next (d : Decoder) (data : Bits) : Option (DecodedLine × Decoder) :=
  match decodeBits d.width d.ref d.lastGood (data.drop d.pos) with
  | none => none
  | some l => some (l, d.after data l)

end Sys2Proof.Machine
end

