-- ==== Sys2Proof/Machine/Store.lean ====
section
/-! DEFINITION. Store.lean: the Page Store Controller (01): the free list and its grants, store pressure, the page table
and its holders; and the writing of coded bits into page chains (R32, R33). -/

namespace Sys2Proof.Machine

/-! ## The page table -/

/-- R13: an empty pending burst. -/
def emptyBurst : List (Option ChainEntry) := List.replicate Config.burstBlocks none

/-- R11: *coded bits*, the sum of the used lengths of the chain entries. -/
def Page.codedBits (p : Page) : Nat := (p.chain.map (·.used)).sum

/-- The blocks of a page's pending burst. -/
def Page.burstEntries (p : Page) : List ChainEntry := p.pendingBurst.filterMap (fun x => x)

/-- Every block a page has. -/
def Page.blocks (p : Page) : List Nat := (p.chain ++ p.burstEntries).map (·.block)

/-- The page record in use with the id. -/
def Store.findPage (st : Store) (id : Nat) : Option Page := st.pages.find? (fun p => p.id == id)

/-- The record with the page's id replaced. -/
def Store.putPage (st : Store) (p : Page) : Store :=
  { st with pages := st.pages.map (fun q => if q.id = p.id then p else q) }

/-- A record taken into use; the table stands by rising id. -/
def Store.addPage (st : Store) (p : Page) : Store :=
  { st with pages := sortInsert (fun a b => a.id ≤ b.id) p st.pages }

/-- The record becomes unused. -/
def Store.removePage (st : Store) (id : Nat) : Store :=
  { st with pages := st.pages.filter (fun q => q.id != id) }

def State.findPage (s : State) (id : Nat) : Option Page := s.store.findPage id
def State.putPage (s : State) (p : Page) : State := s.setStore (s.store.putPage p)

/-- R2: the free count. -/
def Store.freeCount (st : Store) : Nat := st.freeList.length
def State.freeCount (s : State) : Nat := s.store.freeCount

/-- R213: blocks of the store. -/
def State.storeSize (s : State) : Nat := StoreSize.blocks s.straps.storeSize

/-- R12: the page's coded data. -/
def State.pageBits (s : State) (p : Page) : Bits :=
  p.chain.flatMap (fun e => Memory.blockBits s.store.mem e.block e.used)

/-! ## STORE_LOW (R7–R9) -/

/-- R146: a callee holding its caller sends RESUME. -/
def State.resumeLine (s : State) (n : Line) : State :=
  match s.inCall n with
  | some c => if c.holding then (s.setIn n { c with holding := false }).sendFrame n .resume else s
  | none => s

/-- R8: the flag set, its notice and condition flag with it. -/
def State.raiseStoreLow (s : State) : State :=
  ((s.setStore { s.store with storeLow := true }).stage (.storeLow s.freeCount)).putFlag
    flagStoreLow true

/-- R8, R9: the flag cleared, its notice and condition flag with it, and the clearing reported to every line. -/
def State.clearStoreLow (s : State) : State :=
  allLines.foldl State.resumeLine
    (((s.setStore { s.store with storeLow := false }).stage (.storeOk s.freeCount)).putFlag
      flagStoreLow false)

/-- R8: the test after the free count falls. -/
def State.testLow (s : State) : State :=
  if !s.store.storeLow && s.freeCount < s.settings.lowMark then s.raiseStoreLow else s

/-- R8: the test after the free count rises. -/
def State.testHigh (s : State) : State :=
  if s.store.storeLow && s.settings.highMark ≤ s.freeCount then s.clearStoreLow else s

/-- R7: both tests, after a change of the marks. -/
def State.testMarks (s : State) : State := if s.store.storeLow then s.testHigh else s.testLow

/-! ## Grants (R2, R3) -/

/-- R2: the block granted may be any block on the list (`Config.blockChoice`). The list is unordered: its head takes
the place of the block that leaves it. -/
def Store.takeBlock (st : Store) : Option (Nat × Store) :=
  match st.freeList with
  | [] => none
  | h :: t =>
    let b := (h :: t).getD (Config.blockChoice st.grants % (h :: t).length) h
    some (b, { st with freeList := t.map (fun x => if x = b then h else x), grants := st.grants + 1 })

/-- R3: a coder's request is granted while the free count exceeds the receive reserve. -/
def State.coderGrant (s : State) : Option (Nat × State) :=
  if s.settings.receiveReserve < s.freeCount then
    (s.store.takeBlock).map (fun r => (r.1, (s.setStore r.2).testLow))
  else none

/-- R3: a receiving line's request is granted while the free count exceeds zero. -/
def State.receiveGrant (s : State) : Option (Nat × State) :=
  (s.store.takeBlock).map (fun r => (r.1, (s.setStore r.2).testLow))

/-! ## Writing coded bits (R32, R33) -/

/-- The last entry of a chain, where it has room. -/
def Page.roomEntry (p : Page) : Option ChainEntry :=
  match p.chain.getLast? with
  | some e => if e.used < Config.blockBits then some e else none
  | none => none

/-- Bits written at the end of a page's chain, blocks requested as they are needed; the bits that did not fit come
back. A request is refused when the grant is. `fuel` bounds the writes and the requests. -/
def State.writeChain : Nat → State → Nat → Bits → State × Bits
  | 0, s, _, bits => (s, bits)
  | fuel + 1, s, id, bits =>
    if bits = [] then (s, [])
    else
      match s.findPage id with
      | none => (s, bits)
      | some p =>
        match p.roomEntry with
        | some e =>
          let part := bits.take (Config.blockBits - e.used)
          let p' := { p with chain := p.chain.dropLast ++ [{ e with used := e.used + part.length }] }
          let s' := s.setStore { s.store.putPage p' with
            mem := Memory.writeBits s.store.mem e.block e.used part }
          State.writeChain fuel s' id (bits.drop part.length)
        | none =>
          match s.coderGrant with
          | none => (s, bits)
          | some (b, s') =>
            State.writeChain fuel (s'.putPage { p with chain := p.chain ++ [⟨b, 0⟩] }) id bits

/-- Enough for every bit to be written and every block to be requested. -/
def writeFuel (bits : Bits) : Nat := 2 * bits.length + 1

/-- R32: the line is stored: the page's line count rises by one. -/
def State.countLine (s : State) (id : Nat) : State :=
  match s.findPage id with
  | some p => s.putPage { p with lineCount := satAdd Config.maxCount16 p.lineCount 1 }
  | none => s

/-- R32, R33: the scan context writes its held bits; what does not fit stays held and the request waits. -/
def State.writeScanHeld (s : State) : State :=
  match s.scanCtx with
  | none => s
  | some c =>
    let (s1, left) := State.writeChain (writeFuel c.held) s c.page c.held
    let s2 := s1.setScanCtx (some { c with held := left })
    if left = [] then (s2.setStore { s2.store with scanWaiting := false }).countLine c.page
    else s2.setStore { s2.store with scanWaiting := true }

/-- R4: the waiting scan request is taken again. -/
def State.retakeScan (s : State) : State := if s.store.scanWaiting then s.writeScanHeld else s

/-! ## Freeing (R17) -/

/-- Blocks returned to the free list in one event: the count is tested against the high mark, and a waiting scan
request is taken again. DEDUCED: where that request's grants bring the count below the low mark, the flag that the
freeing cleared is set again in the event, and each change has its notice, in the order of the changes (log entry
14). -/
def State.returnBlocks (s : State) (bs : List Nat) : State :=
  if bs = [] then s
  else ((s.setStore { s.store with freeList := bs ++ s.store.freeList }).testHigh).retakeScan

/-- R17: the record becomes unused and every block of the page returns. -/
def State.freePage (s : State) (p : Page) : State :=
  (s.setStore (s.store.removePage p.id)).returnBlocks p.blocks

/-! ## Holders (R15, R16) -/

/-- R16: an entry the page already has, or an unused record, leaves everything unchanged. -/
def State.addHolder (s : State) (id : Nat) (h : Holder) : State :=
  match s.findPage id with
  | some p => if h ∈ p.holders then s else s.putPage { p with holders := p.holders ++ [h] }
  | none => s

/-- R16, R17: a drop that brings the count to zero frees the page. -/
def State.dropHolder (s : State) (id : Nat) (h : Holder) : State :=
  match s.findPage id with
  | some p =>
    if h ∈ p.holders then
      let left := p.holders.erase h
      if left = [] then s.freePage p else s.putPage { p with holders := left }
    else s
  | none => s

/-- Whether a page record with the id is in use. -/
def State.pageInUse (s : State) (id : Nat) : Bool := (s.findPage id).isSome

/-! ## Creation (R10, R11) -/

/-- R10: the lowest unused id. -/
def Store.lowestUnused (st : Store) : Option Nat :=
  (List.range Config.pageRecords).find? (fun i => (st.findPage i).isNone)

/-- R10, R11: a new page with its first holder, or the refusal. -/
def State.createPage (s : State) (source : PageSource) (width : Nat) (res : Resolution)
    (lines : Nat) (tag : List Byte) (line : Option Line) (party : CodingParty) :
    Except RefusalCode (Nat × State) :=
  if !widthOk width then .error .badValue
  else
    match s.store.lowestUnused with
    | none => .error .full
    | some id =>
      let p : Page :=
        { id := id, source := source
          state := if source = .received then .receiving else .coding
          width := width, res := res, lineCount := lines, chain := [], pendingBurst := emptyBurst
          adjusted := 0, tag := tag, line := line, holders := [.coding party] }
      .ok (id, s.setStore (s.store.addPage p))

end Sys2Proof.Machine
end

