-- ==== Sys2Proof/Machine/Jobs.lean ====
section
/-! DEFINITION. Jobs.lean: the Job Table (04): jobs and destinations, retry, call end reports, completion and the loss of
a page. -/

namespace Sys2Proof.Machine

/-! ## Records (R60–R63) -/

/-- The job with the id. -/
def State.findJob (s : State) (id : Nat) : Option Job := s.jobs.jobs.find? (fun j => j.id == id)

/-- The job with the record's id replaced. -/
def State.putJob (s : State) (j : Job) : State :=
  s.setJobs { s.jobs with jobs := s.jobs.jobs.map (fun k => if k.id = j.id then j else k) }

/-- R60: the free records of the destination pool. -/
def JobTable.freeDests (t : JobTable) : Nat :=
  Config.destRecords - (t.jobs.map (fun j => j.dests.length)).sum

/-- R62: a new destination. -/
def Dest.new (dial : List Byte) : Dest :=
  ⟨dial, .pending, 0, none, 0, none, none, none, none, 0⟩

/-- R78, R100: the time has come. -/
def NextAttempt.hasCome (now : Nat) : NextAttempt → Bool
  | .waits t => t ≤ now
  | .come => true

/-- R78: the milliseconds still to wait, 0 once the time has come. -/
def NextAttempt.left (now : Nat) : NextAttempt → Nat
  | .waits t => t - now
  | .come => 0

/-- R72: DONE, FAILED and CANCELLED. -/
def DestState.final : DestState → Bool
  | .done | .failed | .cancelled => true
  | .pending | .waitingRetry | .heldAccount | .bound => false

/-- R72: PENDING, WAITING_RETRY and HELD_ACCOUNT. -/
def DestState.waiting : DestState → Bool
  | .pending | .waitingRetry | .heldAccount => true
  | .bound | .done | .failed | .cancelled => false

/-- The number of destinations in a state. -/
def Job.count (j : Job) (d : DestState) : Nat := (j.dests.filter (fun x => x.state == d)).length

/-- Destination i replaced. -/
def Job.setDest (j : Job) (i : Nat) (d : Dest) : Job := { j with dests := j.dests.set i d }

/-- A job whose page list holds its pages (R83). -/
def Job.holdsPages (j : Job) : Bool := j.state == .opened || j.state == .closed

/-! ## Completion (R81–R83) -/

/-- R83: the job becomes DONE or CANCELLED: its JOB holders go, and JOB_DONE is queued. -/
def State.finishJob (s : State) (j : Job) (st : JobState) : State :=
  let s1 := s.putJob { j with state := st, cancelling := none }
  let s2 := j.pages.foldl (fun t p => t.dropHolder p (.job j.id)) s1
  s2.stage (.jobDone j.id st (j.count .done) (j.count .failed) (j.count .cancelled)
    (min Config.maxCount32 (j.dests.map (·.charged)).sum))

/-- R81, R82: the job is tested for the end of its cancellation, or for completion. -/
def State.settleJob (s : State) (id : Nat) : State :=
  match s.findJob id with
  | none => s
  | some j =>
    if !j.holdsPages then s
    else if j.cancelling.isSome then
      if j.count .bound = 0 then s.finishJob j .cancelled else s
    else if j.state = .closed ∧ j.dests.all (fun d => d.state.final) then s.finishJob j .done
    else s

/-- R68, R69: a destination not bound that has delivered every page becomes DONE. -/
def Dest.finishDelivered (pages : Nat) (d : Dest) : Dest :=
  if d.state.waiting && d.delivered == pages then
    { d with state := .done, lastOutcome := some .done, nextAttempt := none }
  else d

def Job.finishDelivered (j : Job) : Job :=
  { j with dests := j.dests.map (Dest.finishDelivered j.pages.length) }

/-! ## The LFSR and retries (R76, R77) -/

/-- R77: one step: b15 ⊕ b13 ⊕ b12 ⊕ b10 enters b0. -/
def lfsrStep (x : BitVec 16) : BitVec 16 :=
  let new := ((x.getLsbD 15 ^^ x.getLsbD 13) ^^ x.getLsbD 12) ^^ x.getLsbD 10
  (x <<< 1) ||| (if new then 1#16 else 0#16)

/-- R76: the retry wait in ms, r being the low k bits of the LFSR. -/
def retryWait (base k : Nat) (lfsr : BitVec 16) : Nat := base * 1000 * (1 + lfsr.toNat % 2 ^ k)

/-- What an outcome does to its destination (R74). RESTART is never reported (R86); its case stands for totality. -/
inductive OutcomeEffect where
  | retry | failed | held | cancelled | done
deriving DecidableEq, Repr

def CallOutcome.effect : CallOutcome → OutcomeEffect
  | .noTone | .busy | .noAnswer | .linePoor | .remoteGone | .heldTooLong | .declined | .pageRejected
  | .partSent | .lineReset | .restart => .retry
  | .notFax | .noRoute | .barred => .failed
  | .accountHeld => .held
  | .cancelled => .cancelled
  | .done => .done

/-- R76: an attempt more; FAILED at the retry limit, else WAITING_RETRY until a wait drawn from the LFSR has passed. -/
def State.retry (s : State) (j : Job) (i : Nat) (d : Dest) : State :=
  let d' := { d with attempts := d.attempts + 1 }
  if j.retryLimit ≤ d'.attempts then s.putJob (j.setDest i { d' with state := .failed })
  else
    let x := lfsrStep s.disp.lfsr
    let wait := retryWait j.retryBase (min d'.attempts s.settings.backoffCap) x
    (s.setDisp { s.disp with lfsr := x }).putJob
      (j.setDest i { d' with state := .waitingRetry, nextAttempt := some (.waits (s.timebase + wait)) })

/-- R75: the new state of a BOUND destination whose call ended. -/
def State.takeOutcome (s : State) (j : Job) (i : Nat) (d : Dest) (o : CallOutcome) : State :=
  let d := { d with line := none, lastOutcome := some o }
  if j.cancelling.isSome then
    s.putJob (j.setDest i { d with state := .cancelled, lastOutcome := some .cancelled })
  else if j.state = .closed ∧ d.delivered = j.pages.length then
    s.putJob (j.setDest i { d with state := .done, lastOutcome := some .done })
  else
    match o.effect with
    | .retry => s.retry j i d
    | .failed => s.putJob (j.setDest i { d with state := .failed })
    | .held => s.putJob (j.setDest i { d with state := .heldAccount })
    | .cancelled => s.putJob (j.setDest i { d with state := .cancelled })
    | .done => s.putJob (j.setDest i { d with state := .done })

/-- R75: a Line Channel's report of the end of a call, and the tests that follow it. -/
def State.reportCallEnd (s : State) (job i : Nat) (o : CallOutcome) : State :=
  match s.findJob job with
  | none => s
  | some j =>
    match j.dests[i]? with
    | none => s
    | some d => (s.takeOutcome j i d o).settleJob job

/-- R75: a ticket's total added to the destination's *charged*. -/
def State.addCharged (s : State) (job i total : Nat) : State :=
  match s.findJob job with
  | none => s
  | some j =>
    match j.dests[i]? with
    | none => s
    | some d =>
      s.putJob (j.setDest i { d with charged := satAdd Config.maxCount32 d.charged total })

/-! ## Pages and the job table (R68, R73) -/

/-- A job's record of destination i. -/
def State.findDest (s : State) (job i : Nat) : Option (Job × Dest) :=
  match s.findJob job with
  | none => none
  | some j => (j.dests[i]?).map (fun d => (j, d))

/-- R73: the page at list position *delivered*. -/
def Job.nextPage (j : Job) (d : Dest) : Option Nat := j.pages[d.delivered]?

/-- R68: the jobs whose list holds the page. -/
def State.jobsListing (s : State) (page : Nat) : List Job :=
  s.jobs.jobs.filter (fun j => j.holdsPages && j.pages.contains page)

/-- R68: the page leaves one job's list, and the job's JOB entry goes. -/
def State.unlistPage (s : State) (page : Nat) (j : Job) : State :=
  (s.putJob { j with pages := j.pages.erase page }).dropHolder page (.job j.id)

/-- R68: what follows for a job that lost the page. -/
def State.afterPageLoss (s : State) (id : Nat) : State :=
  match s.findJob id with
  | none => s
  | some j => if j.state = .closed then (s.putJob j.finishDelivered).settleJob id else s

end Sys2Proof.Machine
end

