-- ==== Sys2Proof/Machine/Charge.lean ====
section
/-! DEFINITION. Charge.lean: the Charge Unit (08): the band in force, the tariff, accounts and the budget gate, meters,
tickets and ticket slots. -/

namespace Sys2Proof.Machine

/-! ## Bands (R156, R157) -/

/-- R156: WEEKDAY 0, SATURDAY 1, SUNDAY 2. -/
def dayType (day : Nat) (holiday : Bool) : Fin 3 :=
  if holiday then 2 else if day = 0 then 2 else if day = 6 then 1 else 0

/-- R156: the band of a slot of a day type. -/
def Charge.scheduled (c : Charge) (dt : Fin 3) (slot : Nat) : Fin 4 :=
  c.schedule.toList.getD (dt.val * 48 + slot) 0

/-- R154: the slot of the clock's moment. -/
def Clock.slot (c : Clock) : Nat := c.ms / Config.slotMs

/-- R157: the band found. -/
def State.findBand (s : State) : Fin 4 :=
  if s.flag flagClockSet then
    s.charge.scheduled (dayType s.charge.clock.day (s.flag flagHoliday)) s.charge.clock.slot
  else s.settings.defaultBand

/-- R157, R96: the band is found again, and the band flags follow a change. -/
def State.refindBand (s : State) : State :=
  let b := s.findBand
  if b = s.charge.band then s
  else
    (s.setCharge { s.charge with band := b }).setDisp
      { s.disp with flags := putBand s.disp.flags b }

/-- Whether a half-hour boundary stands at the clock's moment or comes after it, and before the time `t`. -/
def State.passesBoundary (s : State) (t : Nat) : Bool :=
  let past := s.charge.clock.ms % Config.slotMs
  s.timebase < t && (past == 0 || Config.slotMs < past + (t - s.timebase))

/-- The time `t` has come (log entry 1): where it is still ahead, the timebase and the clock move forward to it. R157:
where that passes a half-hour boundary, the band is found again as it stands in the last millisecond before `t`. A
boundary that comes at `t` itself is an event of its own, before or after the one that runs. -/
def State.advanceTo (s : State) (t : Nat) : State :=
  if s.passesBoundary t then ((s.moveTo (t - 1)).refindBand).moveTo t else s.moveTo t

/-! ## The tariff (R159) -/

/-- The entry of a class and a band. -/
def Charge.entry (c : Charge) (cls : Fin 8) (b : Fin 4) : TariffEntry :=
  c.tariff.get ⟨4 * cls.val + b.val, by omega⟩

def Charge.setEntry (c : Charge) (cls : Fin 8) (b : Fin 4) (e : TariffEntry) : Charge :=
  { c with tariff := c.tariff.set (4 * cls.val + b.val) e (by omega) }

/-! ## Accounts (R165–R167, R172) -/

def State.account (s : State) (a : Fin 64) : Account := s.charge.accounts.get a

def State.setAccount (s : State) (a : Fin 64) (x : Account) : State :=
  s.setCharge { s.charge with accounts := s.charge.accounts.set a.val x a.isLt }

/-- R167: the budget is nonzero and spent is at or above it. -/
def Account.reached (a : Account) : Bool := a.budget != 0 && a.budget ≤ a.spent

/-- R172: the budget gate for a call of a class in the band in force. -/
def State.gate (s : State) (a : Fin 64) (cls : Fin 8) : Bool :=
  let x := s.account a
  let e := s.charge.entry cls s.charge.band
  x.state == .opened && (x.budget == 0 || x.spent + e.connect + e.pulse ≤ x.budget)

/-- The answered calls of an account in progress: those with a meter (R160). -/
def State.answeredCalls (s : State) (a : Fin 64) : Nat :=
  (allLines.filter fun n =>
    match s.charge.meters.get n with
    | some m => m.account == a
    | none => false).length

/-- R169: the calls of an account in progress, answered or not. -/
def State.accountCalls (s : State) (a : Fin 64) : Nat :=
  (allLines.filter fun n =>
    match s.outCall n with
    | some c => c.account == a
    | none => false).length

/-- R173: outgoing calls in progress. -/
def State.outgoingCalls (s : State) : Nat :=
  (allLines.filter fun n => (s.outCall n).isSome).length

/-- R165: accounts that are not FREE. -/
def Charge.accountsUsed (c : Charge) : Nat :=
  (c.accounts.toList.filter (fun a => a.state != .free)).length

/-- R166: a charge posted to its account. -/
def State.post (s : State) (a : Fin 64) (charge : Nat) : State :=
  let x := s.account a
  s.setAccount a { x with spent := satAdd Config.maxCount32 x.spent charge }

/-- R167: where the test holds and at limit was no, it becomes yes and ACCOUNT_LIMIT is queued. -/
def State.markLimit (s : State) (a : Fin 64) : State :=
  let x := s.account a
  if x.reached && !x.atLimit then
    (s.setAccount a { x with atLimit := true }).stage
      (.accountLimit a.val x.spent x.budget (s.answeredCalls a))
  else s

/-- R79: the account's HELD_ACCOUNT destinations that now pass the gate become PENDING. -/
def State.reevaluateHeld (s : State) (a : Fin 64) : State :=
  let free (d : Dest) : Bool :=
    d.state == .heldAccount && (match d.route with | some r => s.gate a r.cls | none => false)
  let release (j : Job) : Job :=
    if j.account = a then
      { j with dests := j.dests.map (fun d => if free d then { d with state := .pending } else d) }
    else j
  (s.setJobs { s.jobs with jobs := s.jobs.jobs.map release }).requestPass

/-! ## Meters (R160–R163) -/

def State.setMeter (s : State) (n : Line) (m : Option Meter) : State :=
  s.setCharge { s.charge with meters := s.charge.meters.set n m }

/-- R159: a period in ms. -/
def TariffEntry.periodMs (e : TariffEntry) : Nat := e.period * 100

/-- R161: the answer of an outgoing call on line n, up to the at-limit test. -/
def State.chargeAnswer (s : State) (n : Line) (c : OutCall) : State :=
  let b := s.charge.band
  let e := s.charge.entry c.route.cls b
  let m : Meter :=
    { job := c.job, dest := c.dest, account := c.account, digits := c.route.digits
      cls := c.route.cls, band := b, answerDay := s.charge.clock.day, answerMs := s.charge.clock.ms
      t0 := s.timebase, pulses := 1, total := e.connect + e.pulse
      nextExpiry := s.timebase + e.periodMs }
  let s1 := (s.setMeter n (some m)).post c.account (e.connect + e.pulse)
  let x := s1.account c.account
  s1.setAccount c.account { x with calls := satAdd Config.maxCount32 x.calls 1 }

/-- R162: one pulse on line n's meter, up to the at-limit test. -/
def State.chargePulse (s : State) (n : Line) (m : Meter) : State :=
  let e := s.charge.entry m.cls s.charge.band
  let m' := { m with
    pulses := m.pulses + 1, total := m.total + e.pulse, nextExpiry := m.nextExpiry + e.periodMs }
  (s.setMeter n (some m')).post m.account e.pulse

/-- R163, R174: the meter of line n stops and its ticket joins the queue. -/
def State.issueTicket (s : State) (n : Line) (m : Meter) (o : CallOutcome) : State :=
  let t : Ticket :=
    { account := m.account, job := m.job, dest := m.dest, line := n, cls := m.cls, band := m.band
      answerDay := m.answerDay, answerMs := m.answerMs, duration := s.timebase - m.t0
      pulses := m.pulses, total := m.total, outcome := o, digits := m.digits }
  s.setCharge { s.charge with
    meters := s.charge.meters.set n none, tickets := s.charge.tickets ++ [t] }

/-- R173: a slot reserved. -/
def State.takeSlot (s : State) : State :=
  s.setCharge { s.charge with slots := s.charge.slots + 1 }

/-- R173: a slot released without a ticket; a pass is requested. -/
def State.releaseSlot (s : State) : State :=
  (s.setCharge { s.charge with slots := s.charge.slots - 1 }).requestPass

/-- R163, R173: the Charge Unit's part of the end of an outgoing call: a ticket for an answered call, whose total
joins the destination's *charged*; the slot released for a call never answered. -/
def State.settleCharge (s : State) (n : Line) (o : CallOutcome) : State :=
  match s.charge.meters.get n with
  | some m => (s.issueTicket n m o).addCharged m.job m.dest m.total
  | none => s.releaseSlot

end Sys2Proof.Machine
end

