-- ==== Sys2Proof/Machine/Recoder.lean ====
section
/-! DEFINITION. Recoder.lean: the Recoders (02, 2.7) and the packing of a page's stream into bursts (R137–R139). -/

namespace Sys2Proof.Machine

/-! ## Transforms (R137) and fill (R138) -/

/-- R137: a pixel is black where either line of the pair is black. -/
def mergeLines (a b : List Nat) : List Nat :=
  pixelsToRuns (List.zipWith (fun x y => x || y) (runsToPixels a) (runsToPixels b))

/-- R138: the remote's minimum line bits at a rate. -/
def minLineBits (ms : Nat) (r : Rate) : Nat := ms * Rate.bps r / 1000

/-- R138: a coded line with the FILL symbols of its shortfall before it. -/
def padLine (m : Nat) (line : Bits) : Bits :=
  (List.replicate (ceilDiv (m - line.length) 2) markFill).flatten ++ line

/-! ## The next line sent (R41, R42) -/

/-- R41: in copy mode a good line goes as read, a concealed one as its PLAIN coding. -/
def Recoder.copyLine (r : Recoder) (data : Bits) : Option (Bits × Recoder) :=
  match r.dec.next data with
  | none => none
  | some (l, d) => some (if l.concealed then plainBits l.runs else l.raw, { r with dec := d })

/-- R42, R137: in recode mode the next line, or pair of lines, transformed and coded afresh. -/
def Recoder.recodeLine (r : Recoder) (data : Bits) : Option (Bits × Recoder) :=
  match r.dec.next data with
  | none => none
  | some (l, d) =>
    let a := cutRuns r.cropTo l.runs
    let (runs, d') :=
      if r.merge then
        match d.next data with
        | some (l2, d2) => (mergeLines a (cutRuns r.cropTo l2.runs), d2)
        | none => (a, d)
      else (a, d)
    let (bits, e) := encodeLine r.form r.enc runs
    some (bits, { r with dec := d', enc := e })

def Recoder.nextLine (r : Recoder) (data : Bits) : Option (Bits × Recoder) :=
  match r.mode with
  | .copy => r.copyLine data
  | .recode => r.recodeLine data

/-! ## Bursts (R139) -/

/-- R139: bits of a full burst. -/
def burstBits : Nat := Config.burstBlocks * Config.blockBits

/-- R139: lines packed, padded to `m` bits, until the burst is full or the page ends. Every line consumes data, so
`fuel` above the data's length is enough. -/
def Recoder.pack (m : Nat) (data : Bits) : Nat → Recoder → Bits → Bits × Recoder
  | 0, r, acc => (acc, r)
  | fuel + 1, r, acc =>
    if burstBits ≤ acc.length then (acc, r)
    else
      match r.nextLine data with
      | none => (acc, r)
      | some (line, r') => Recoder.pack m data fuel r' (acc ++ padLine m line)

/-- The stream of a burst and the Recoder after it; what falls past the burst's end is kept for the next. -/
def Recoder.burst (r : Recoder) (rate : Rate) (data : Bits) : Bits × Recoder :=
  let (bits, r') := Recoder.pack (minLineBits r.minTime rate) data (data.length + 1) r r.carry
  (bits.take burstBits, { r' with carry := bits.drop burstBits })

/-- R139: the stream cut into blocks of 2,048 bits; the last is completed to a whole byte. `fuel` is the blocks of a
burst. -/
def cutBlocks : Nat → Bits → List (List Byte)
  | 0, _ => []
  | fuel + 1, bits =>
    if bits = [] then []
    else packBytes (bits.take Config.blockBits) :: cutBlocks fuel (bits.drop Config.blockBits)

end Sys2Proof.Machine
end

