-- ==== Sys2Proof/Machine/Calls.lean ====
section
/-! DEFINITION. Calls.lean: the channel's part of outgoing calls (06) and the caller's side of the line procedure (07):
seizing, dialling, the end of a call, pages, bursts, holds and the page wait. -/

namespace Sys2Proof.Machine

/-! ## LINEn_FREE and IDLE (R98, R99) -/

/-- R98: LINEn_FREE follows the line. -/
def State.putLineFree (s : State) (n : Line) (v : Bool) : State := s.putFlag (flagLineFree n) v

/-- A line in service enters IDLE: LINEn_FREE is set and a pass requested (R98, R99). -/
def State.enterIdle (s : State) (n : Line) : State :=
  ((s.setChanState n .idle).putLineFree n true).requestPass

/-- A channel with no call, no ring count and no Recoder, in the state given, its timers as given. -/
def Channel.bare (st : ChanState) (timers : List (Timer × Nat)) : Channel :=
  ⟨st, none, none, none, timers⟩

/-! ## The end of an outgoing call (R121) -/

/-- R120, R121: the channel in CLEAR with its guard running and no call. -/
def State.enterClear (s : State) (n : Line) : State :=
  s.setChan n (Channel.bare .clear [(.clearGuard, s.timebase + Config.clearGuard)])

/-- R121: an outgoing call ends with outcome `o`; `p` is stop, or reset. -/
def State.endOutgoing (s : State) (n : Line) (o : CallOutcome) (p : PumpRequest) : State :=
  match s.outCall n with
  | none => s
  | some c =>
    let s1 := ((s.emit (.onHook n)).pump n p).enterClear n
    let s2 :=
      match (s.chan n).recoder with
      | some r => s1.dropHolder r.page (.sending n)
      | none => s1
    (s2.settleCharge n o).reportCallEnd c.job c.dest o

/-- The call ends with the pump stopped. -/
def State.hangUp (s : State) (n : Line) (o : CallOutcome) : State := s.endOutgoing n o .stop

/-- BYE, and the end of the call. -/
def State.byeAndEnd (s : State) (n : Line) (o : CallOutcome) : State := (s.sendFrame n .bye).hangUp n o

/-- R147, R148, R151, R152: LAST and BYE after a page already taken; the LAST carries the other bit. -/
def State.lastAndBye (s : State) (n : Line) (c : OutCall) (o : CallOutcome) : State :=
  (s.sendFrame n (.last (!c.pageBit))).byeAndEnd n o

/-! ## Dialling (R112) -/

/-- R112: the step at the dial position: a run is handed, a pause waited, or the line awaits the answer. -/
def State.dialStep (s : State) (n : Line) (c : OutCall) (pos : Nat) : State :=
  match c.route.digits.drop pos with
  | [] =>
    ((s.setOut n { c with dialPos := none }).setChanState n .awaitAnswer).startTimer n .answer
      Config.answerWait
  | d :: ds =>
    if d = pauseChar then
      (s.setOut n { c with dialPos := some pos }).startTimer n .pause Config.pauseWait
    else
      let run := (d :: ds).takeWhile (fun x => x != pauseChar)
      ((s.setOut n { c with dialPos := some (pos + run.length) }).pump n (.dial run)).startTimer n
        .pumpDial Config.pumpDialWait

/-- R113: in DIAL the dial timers stop and the pump is told to stop dialling. -/
def State.stopDialling (s : State) (n : Line) : State :=
  if (s.chan n).state = .dial then
    ((s.stopTimer n .pumpDial).stopTimer n .pause).pump n .stopDialling
  else s

/-! ## Training (R114, R135, R142) -/

/-- The pump is asked to train under a ceiling and the train wait starts. -/
def State.train (s : State) (n : Line) (ceiling : Rate) : State :=
  (s.pump n (.train ceiling)).startTimer n .train Config.trainWait

/-- R135, R142: a reported rate above the ceiling is taken as the ceiling. -/
def trainedRate (ceiling : Option Rate) (r : Rate) : Rate :=
  match ceiling with
  | some c => Rate.lesser r c
  | none => r

/-! ## Bursts (R139–R142) -/

/-- R140: 6 s, and the time the pump takes to send the BLOCK data handed ahead of the CHECK. -/
def tallyWaitFor (bytes : Nat) (r : Rate) : Nat :=
  Config.tallyWait + ceilDiv (bytes * 8 * 1000) (Rate.bps r)

/-- The rate in force; a call in SEND always has one. -/
def OutCall.rateNow (c : OutCall) : Rate := c.rate.getD .r2400

/-- The last position of the burst in progress. -/
def OutCall.lastPos (c : OutCall) : Nat := c.burst.length - 1

/-- R140, R141: the BLOCK frames of the positions chosen, in order, then the CHECK; the TALLY wait starts. -/
def State.sendPositions (s : State) (n : Line) (c : OutCall) (which : Nat → Bool) : State :=
  let chosen := c.burst.zipIdx.filter (fun p => which p.2)
  let bytes := (chosen.map (fun p => p.1.length)).sum
  let s1 := chosen.foldl (fun t p => t.sendFrame n (.block p.2 p.1)) (s.setOut n c)
  (s1.sendFrame n (.check c.lastPos c.burstBit)).startTimer n .tally (tallyWaitFor bytes c.rateNow)

/-- R140: a burst just packed is sent whole. -/
def State.sendBurst (s : State) (n : Line) (c : OutCall) (blocks : List (List Byte)) : State :=
  s.sendPositions n
    { c with
      burst := blocks, missing := 0, rounds := 0, resends := 0, phase := some .checking
      burstBit := c.anyBurst && !c.burstBit, anyBurst := true }
    (fun _ => true)

/-- R141: the positions the last tally listed are sent again, with the CHECK. -/
def State.resendMissing (s : State) (n : Line) (c : OutCall) : State :=
  s.sendPositions n { c with resends := 0, phase := some .checking }
    (fun i => c.missing.getLsbD i)

/-- R147: whether the page end is LAST. -/
def State.endsWithLast (s : State) (c : OutCall) (page : Nat) : Bool :=
  c.endAfter.isSome ||
    (match s.findJob c.job with
     | some j => j.state == .closed && j.pages.getLast? == some page
     | none => false)

/-- R147: the page end is sent and the page end reply wait starts. -/
def State.sendPageEnd (s : State) (n : Line) (c : OutCall) (page : Nat) : State :=
  let last := s.endsWithLast c page
  let c' := { c with
    burst := [], missing := 0, rounds := 0, resends := 0, phase := some .ending
    pageEnd := some (if last then .last else .more) }
  ((s.setOut n c').sendFrame n (if last then .last c.pageBit else .more c.pageBit)).startTimer n
    .pageEndReply Config.pageEndReplyWait

/-- R139, R141, R147: the next burst of the page is packed and sent; where no stream data remains, the page end. -/
def State.nextBurst (s : State) (n : Line) (c : OutCall) (r : Recoder) : State :=
  match s.findPage r.page with
  | none => s
  | some p =>
    let (bits, r') := r.burst c.rateNow (s.pageBits p)
    let s1 := s.setChan n { s.chan n with recoder := some r' }
    if bits = [] then s1.sendPageEnd n c r.page
    else s1.sendBurst n c (cutBlocks Config.burstBlocks bits)

/-- R142: RETRAIN at the next lower rate; at 2,400 bit/s BYE, LINE_POOR. -/
def State.stepDown (s : State) (n : Line) (c : OutCall) : State :=
  match Rate.below c.rateNow with
  | none => s.byeAndEnd n .linePoor
  | some r =>
    ((s.setOut n { c with
        ceiling := some r, retraining := true, phase := some .retraining
        retrainCause := some .stepDown }).sendFrame n (.retrain r)).train n r

/-- R141: the action the last tally called for. -/
def State.tallyAction (s : State) (n : Line) (c : OutCall) : State :=
  match (s.chan n).recoder with
  | none => s
  | some r =>
    if c.missing = 0 then s.nextBurst n c r
    else if c.rounds < Config.stepDownRound then s.resendMissing n c
    else s.stepDown n c

/-- R141: the positions of a tally that are read: 0 to the last position. -/
def OutCall.readMissing (c : OutCall) (m : BitVec 32) : BitVec 32 :=
  m &&& (BitVec.ofNat 32 (2 ^ c.burst.length - 1))

/-- R145: the caller is HELD for `secs` seconds. -/
def State.beginHold (s : State) (n : Line) (c : OutCall) (secs : Nat) : State :=
  ((s.setOut n { c with phase := some .held, holdStart := s.timebase }).startTimer n .hold
    (secs * 1000)).startTimer n .keepalive Config.keepalive

/-- R145: the hold ends: the time held is added, and the call ends or the tally's action is taken. -/
def State.endHold (s : State) (n : Line) (c : OutCall) : State :=
  let total := c.holdTotal + (s.timebase - c.holdStart)
  let c' := { c with holdTotal := total }
  let s1 := ((s.stopTimer n .hold).stopTimer n .keepalive).setOut n c'
  if Config.holdLimit < total then s1.byeAndEnd n .heldTooLong else s1.tallyAction n c'

/-! ## Pages (R136, R147, R148, R151) -/

/-- What R136 decides about a page to be sent. -/
structure SendPlan where
  width : Nat
  res : Resolution
  lines : Nat
  mode : RecMode
  merge : Bool
deriving DecidableEq, Repr

/-- R136: width sent, resolution sent, line count sent and mode. -/
def sendPlan (p : Page) (caps : Caps) (form : Form) : SendPlan :=
  let w := min p.width caps.maxWidth
  let merge := caps.coarseOnly && p.res == .fine
  { width := w
    res := if merge then .coarse else p.res
    lines := if merge then ceilDiv p.lineCount 2 else p.lineCount
    mode := if form = .plainOnly ∨ w < p.width ∨ merge then .recode else .copy
    merge := merge }

/-- R43, R136: a Recoder that begins preparing a page. -/
def Recoder.begin (s : Settings) (p : Page) (caps : Caps) (form : Form) : Recoder :=
  let d := sendPlan p caps form
  { page := p.id, mode := d.mode, dec := Decoder.begin p.id p.width
    enc := Encoder.begin (refreshInterval s d.res) d.width, form := form, cropTo := d.width
    merge := d.merge, minTime := caps.minTime, carry := [] }

/-- R136: the caller opens a page. -/
def State.openPage (s : State) (n : Line) (c : OutCall) (p : Page) : State :=
  match c.caps, c.form with
  | some caps, some form =>
    let d := sendPlan p caps form
    let c' := { c with pageBit := c.anyPage && !c.pageBit, anyPage := true }
    let r := Recoder.begin s.settings p caps form
    let s1 := ((s.setOut n c').sendFrame n (.pageHead d.width d.res form d.lines)).addHolder p.id
      (.sending n)
    (s1.setChan n { s1.chan n with recoder := some r }).nextBurst n c' r
  | _, _ => s

/-- What stands at list position *delivered* of a call's destination. -/
inductive NextPage where
  | complete (p : Page)
  /-- in CODING -/
  | coding
  /-- absent, in a CLOSED job -/
  | finished
  /-- absent, in an OPEN job -/
  | awaited
deriving DecidableEq, Repr

/-- R148, R151: what a caller's next page is. -/
def State.nextPage (s : State) (c : OutCall) : NextPage :=
  match s.findDest c.job c.dest with
  | none => .awaited
  | some (j, d) =>
    match j.nextPage d with
    | none => if j.state = .closed then .finished else .awaited
    | some id =>
      match s.findPage id with
      | some p => if p.state = .complete then .complete p else .coding
      | none => .coding

/-- The outcome *end after page* names. -/
def EndCause.outcome : EndCause → CallOutcome
  | .cancelled => .cancelled
  | .accountHeld => .accountHeld

/-- R151: the caller enters PAGE_WAIT. -/
def State.enterPageWait (s : State) (n : Line) (c : OutCall) : State :=
  match s.findJob c.job with
  | none => s
  | some j =>
    ((s.setOut n { c with phase := some .pageWait }).startTimer n .pageWait
      (j.pageWait * 1000)).startTimer n .keepalive Config.keepalive

/-- R151: the waits of PAGE_WAIT stop. -/
def State.stopWaits (s : State) (n : Line) : State := (s.stopTimer n .pageWait).stopTimer n .keepalive

/-- R148: what follows a TAKEN after MORE. -/
def State.afterMore (s : State) (n : Line) (c : OutCall) : State :=
  match c.endAfter with
  | some e => s.lastAndBye n c e.outcome
  | none =>
    match s.nextPage c with
    | .complete p => s.openPage n c p
    | .finished => s.lastAndBye n c .done
    | .coding | .awaited => s.enterPageWait n c

/-- R151: a line in PAGE_WAIT looks at its next page again. -/
def State.tellLine (s : State) (n : Line) : State :=
  match s.outCall n with
  | some c =>
    if c.phase = some .pageWait then
      match s.nextPage c with
      | .complete p => (s.stopWaits n).openPage n c p
      | .finished => (s.stopWaits n).lastAndBye n c .done
      | .coding | .awaited => s
    else s
  | none => s

/-- R14, R67–R69: every line that waits for a page is told. -/
def State.tellWaiting (s : State) : State := allLines.foldl State.tellLine s

/-! ## Ending a send early (R115, R152) -/

/-- R152: AFTER_PAGE or the limit, at a caller in SEND. -/
def State.finishAfterPage (s : State) (n : Line) (c : OutCall) (e : EndCause) : State :=
  let c' := { c with endAfter := some (c.endAfter.getD e) }
  let s1 := s.setOut n c'
  if c.phase = some .pageWait then
    (s1.stopWaits n).lastAndBye n c' (c.endAfter.getD e).outcome
  else s1

/-- R115, R152: a request that a call should finish: a JOB CANCEL (`e` CANCELLED, `now` for its strength) or the
account's limit. DEDUCED: the BYE of NOW is sent in RETRAINING too, as R152 has it sent in any phase; R153's "hands no
further frame" is read of what follows the call's end (log entry 15). DESIGN CHOICE: the discard of R152, ahead of the
BYE of NOW in SEND, is a request to the pump of its own, `discardFrames` (log entry 36). -/
def State.requestFinish (s : State) (n : Line) (e : EndCause) (now : Bool) : State :=
  match s.outCall n with
  | none => s
  | some c =>
    match (s.chan n).state with
    | .seize | .dial | .awaitAnswer => (s.stopDialling n).hangUp n e.outcome
    | .greet | .train => s.byeAndEnd n e.outcome
    | .send =>
      if now then (s.pump n .discardFrames).byeAndEnd n .cancelled
      else s.finishAfterPage n c e
    | .outOfService | .idle | .ringIn | .answering | .receive | .clear => s

/-- R167: the limit reported to each answered call of the account, lowest line first (log entry 11). -/
def State.reportLimit (s : State) (a : Fin 64) : State :=
  allLines.foldl
    (fun t n =>
      match t.charge.meters.get n with
      | some m => if m.account = a then t.requestFinish n .accountHeld false else t
      | none => t) s

/-- R167: the test after a posting, and what follows where it holds. -/
def State.testLimit (s : State) (a : Fin 64) : State :=
  if (s.account a).reached then (s.markLimit a).reportLimit a else s

end Sys2Proof.Machine
end

