-- ==== Sys2Proof/Machine/Print.lean ====
section
/-! DEFINITION. Print.lean: the Print Controller and the Print Decoder (09): routing, the print queue, printing, faults,
paper and standby. -/

namespace Sys2Proof.Machine

/-! ## The engine (9.3) -/

def State.engine (s : State) (r : EngineRequest) : State := s.emit (.engine r)

/-- R180: an item is handed and stays handed until it is accepted. -/
def State.handItem (s : State) (i : PrintItem) : State :=
  (s.setPrinter { s.printer with handed := some i }).engine (.hand i)

/-- R180: a page is in progress: in PRINTING, HELD and FAULTED. -/
def PrintState.inProgress : PrintState → Bool
  | .printing | .held | .faulted => true
  | .idle | .standby | .waking => false

/-- R180: the head page can begin. -/
def Printer.canBegin (p : Printer) : Bool :=
  !p.queue.isEmpty && !p.state.inProgress && !p.paused && !p.paperOut

/-! ## Standby (R189) -/

/-- R189: STANDBY is handed to the engine. -/
def State.enterStandby (s : State) : State :=
  (s.setPrinter { s.printer with state := .standby, standbyTimer := none }).engine .standby

/-- R189: the standby timer starts as the queue becomes empty; a delay of 0 hands STANDBY at once. -/
def State.startStandby (s : State) : State :=
  if s.settings.standbyDelay = 0 then s.enterStandby
  else s.setPrinter { s.printer with
    standbyTimer := some (s.timebase + s.settings.standbyDelay * 1000) }

/-! ## Beginning a page (R181) -/

/-- R181: the head page begins, or its reprint; the limit is latched at a reprint count of 0 only. -/
def State.beginPrinting (s : State) : State :=
  match s.printer.queue with
  | [] => s
  | e :: es =>
    match s.findPage e.page with
    | none => s
    | some p =>
      let e' := if e.reprints = 0 then { e with limit := some s.settings.pageLimit } else e
      (s.setPrinter { s.printer with
        queue := e' :: es, state := .printing, decoder := some (Decoder.begin p.id p.width)
        linesHanded := 0, truncated := false }).handItem (.pageStart p.width p.res)

/-- R189: WAKE is sent and WAKING entered. DEDUCED: where READY is high in that event, it is the first in which the page
can begin, and the page begins in it (log entry 16). -/
def State.wakeEngine (s : State) : State :=
  let s1 := (s.setPrinter { s.printer with state := .waking }).engine .wake
  if s1.printer.readyPin then s1.beginPrinting else s1

/-- R180, R184, R189: what waits begins in the first event in which it can: a page in IDLE and WAKING, WAKE in
STANDBY, a reprint in FAULTED. -/
def State.tryBegin (s : State) : State :=
  let p := s.printer
  match p.state with
  | .idle | .waking => if p.canBegin && p.readyPin then s.beginPrinting else s
  | .standby => if p.canBegin then s.wakeEngine else s
  | .faulted => if p.readyPin && !p.paperOut then s.beginPrinting else s
  | .printing | .held => s

/-! ## The queue (R179) and routing (R178) -/

/-- R179: a page joins the tail of the print queue. -/
def State.queuePrint (s : State) (id : Nat) : State :=
  ((s.setPrinter { s.printer with
    queue := s.printer.queue ++ [⟨id, none, 0⟩], standbyTimer := none }).addHolder id .print).putFlag
      flagPrintBusy true

/-- R178: the PAGE_RECEIVED notice of a forwarded page. -/
def pageReceived (p : Page) (queued full : Bool) : Notice :=
  .pageReceived p.id (p.line.getD 0) p.state p.width p.res
    p.lineCount p.codedBits p.chain.length p.tag queued full

/-- R178: a received page that has ended is routed. -/
def State.routePage (s : State) (p : Page) : State :=
  let room := s.printer.queue.length < Config.printEntries
  match s.settings.routing with
  | .print =>
    if room then (s.queuePrint p.id).tryBegin
    else (s.addHolder p.id .forward).stage (pageReceived p false true)
  | .forward => (s.addHolder p.id .forward).stage (pageReceived p false false)
  | .both =>
    if room then
      ((s.queuePrint p.id).addHolder p.id .forward).stage (pageReceived p true false) |>.tryBegin
    else (s.addHolder p.id .forward).stage (pageReceived p false true)

/-! ## Printing (R182, R183) -/

/-- R183: what an acceptance hands next: at once, or in HELD at the rise of READY. -/
def State.handNext (s : State) (i : PrintItem) : State :=
  if s.printer.state = .held ∧ s.printer.readyPin = false then
    s.setPrinter { s.printer with deferred := some i }
  else s.handItem i

/-- R182: the page has been printed. -/
def State.pagePrinted (s : State) (e : PrintEntry) (es : List PrintEntry) : State :=
  match s.findPage e.page with
  | none => s
  | some p =>
    let d := s.printer.decoder.getD (Decoder.begin p.id p.width)
    let s1 := (s.setPrinter { s.printer with
      queue := es, state := .idle, decoder := none, holdTimer := none, deferred := none
      }).dropHolder p.id .print
    let s2 := s1.stage (.pagePrinted p.id (p.line.getD 0) p.tag
      p.state d.produced d.concealed s.printer.truncated e.reprints (!s1.pageInUse p.id))
    if es = [] then (s2.putFlag flagPrintBusy false).startStandby else s2.tryBegin

/-- R182: the answer to the acceptance of a page start or a line. -/
def State.nextItem (s : State) (e : PrintEntry) (d : Decoder) (p : Page) : State :=
  let more := s.printer.linesHanded < e.limit.getD s.settings.pageLimit
  match d.next (s.pageBits p) with
  | none => s.handNext .pageEnd
  | some (l, d') =>
    if more then
      (s.setPrinter { s.printer with
        decoder := some d', linesHanded := s.printer.linesHanded + 1 }).handNext (.line l.runs)
    else (s.setPrinter { s.printer with truncated := true }).handNext .pageEnd

/-- R182: LINE_ACCEPTED for the item handed, while a page is in progress. -/
def State.accept (s : State) (i : PrintItem) : State :=
  let s := s.setPrinter { s.printer with handed := none }
  match s.printer.queue with
  | [] => s
  | e :: es =>
    match i with
    | .pageEnd => s.pagePrinted e es
    | .pageStart _ _ | .line _ =>
      match s.findPage e.page, s.printer.decoder with
      | some p, some d => s.nextItem e d p
      | _, _ => s

/-! ## Faults (R184) -/

/-- R184: a print fault of the page in progress. DEDUCED: where the reprint begins in the event of the fault, a
LINE_ACCEPTED that comes after it is taken for the page start then handed (log entry 30). -/
def State.printFault (s : State) (cause : PrinterCause) : State :=
  match s.printer.queue with
  | [] => s
  | e :: es =>
    let e' := { e with reprints := satAdd 255 e.reprints 1 }
    (((s.setPrinter { s.printer with
        queue := e' :: es, state := .faulted, handed := none, deferred := none, decoder := none
        holdTimer := none }).engine .abandon).stage
      (.printerState cause (some e.page) (some e'.reprints))).tryBegin

/-! ## Paper (R186, R187) -/

/-- R186: a change of the paper level: the level held, PAPER_OUT and the notice. -/
def State.notePaper (s : State) (out : Bool) : State :=
  ((s.setPrinter { s.printer with paperOut := out }).putFlag flagPaperOut out).stage
    (.printerState (if out then .paperOut else .paperPresent) none none)

/-- R186, R187: a change of level taken. -/
def State.takePaper (s : State) (out : Bool) : State :=
  let s1 := s.notePaper out
  match out, s.printer.state with
  | true, .printing | true, .held => s1.printFault .paper
  | _, _ => s1.tryBegin

end Sys2Proof.Machine
end

