-- ==== Sys2Proof/Machine/Callee.lean ====
section
/-! DEFINITION. Callee.lean: incoming calls (06) and the callee's side of the line procedure (07). -/

namespace Sys2Proof.Machine

/-! ## The pending burst (R13, R143, R144) -/

/-- The entries of positions 0 up to the first empty one. -/
def leadingEntries : List (Option ChainEntry) → List ChainEntry
  | some e :: rest => e :: leadingEntries rest
  | none :: _ => []
  | [] => []

/-- The entries after the first empty position. -/
def trailingEntries : List (Option ChainEntry) → List ChainEntry
  | some _ :: rest => trailingEntries rest
  | none :: rest => rest.filterMap (fun x => x)
  | [] => []

/-- R13: the leading entries of the pending burst join the chain, and every position becomes empty. -/
def Page.appendBurst (p : Page) : Page :=
  { p with chain := p.chain ++ leadingEntries p.pendingBurst, pendingBurst := emptyBurst }

/-- R13, R19: the pending burst of a page that ends: the rest of its blocks return to the free list. -/
def State.closeBurst (s : State) (p : Page) : State :=
  (s.putPage p.appendBurst).returnBlocks ((trailingEntries p.pendingBurst).map (·.block))

/-- R144, step 1: blocks at positions above the last one return to the free list. -/
def State.trimBurst (s : State) (p : Page) (last : Nat) : State :=
  let kept := p.pendingBurst.take (last + 1)
  let gone := (p.pendingBurst.drop (last + 1)).filterMap (fun x => x)
  (s.putPage { p with pendingBurst := kept ++ List.replicate (Config.burstBlocks - kept.length) none
    }).returnBlocks (gone.map (·.block))

/-- R144, step 2: the missing set. -/
def missingSet (p : Page) (last : Nat) : BitVec 32 :=
  (List.range (last + 1)).foldl
    (fun m i => if (p.pendingBurst.getD i none).isNone then m ||| (1#32 <<< i) else m) 0

/-! ## The end of a received page and of an incoming call (R19, R120) -/

/-- R19: the page ends in state `st`, is routed, and the line drops CODING. -/
def State.endReceived (s : State) (n : Line) (id : Nat) (st : PageState) : State :=
  match s.findPage id with
  | none => s
  | some p =>
    let s1 := if st = .incomplete then s.closeBurst p else s
    match s1.findPage id with
    | none => s1
    | some q =>
      let q' := { q with state := st }
      ((s1.putPage q').routePage q').dropHolder id (.coding (.line n))

/-- R120: an incoming call ends. -/
def State.endIncoming (s : State) (n : Line) : State :=
  match s.inCall n with
  | none => s
  | some c =>
    let s1 := ((s.emit (.onHook n)).pump n .stop).enterClear n
    match c.page with
    | some id => s1.endReceived n id .incomplete
    | none => s1

/-- R119: a loss of the caller. -/
def State.callerLost (s : State) (n : Line) : State := s.endIncoming n

/-! ## Answering (R118, R119) -/

/-- R118: the answering test. -/
def State.answers (s : State) (n : Line) (rings : Nat) : Bool :=
  let e := s.lineEntry n
  e.rings != 0 && e.rings ≤ rings && e.mode != .send && e.inService
    && s.settings.answerFloor ≤ s.freeCount && s.store.pages.length < Config.pageRecords

/-- R131: the callee's context at the answer. -/
def InCall.new : InCall := ⟨none, none, none, none, false, none, none, false, false, none⟩

/-- R119: the line answers. -/
def State.answer (s : State) (n : Line) : State :=
  ((((s.setChan n { Channel.bare .answering [] with call := some (.incoming InCall.new) }).emit
    (.offHook n)).pump n .answer)).startTimer n .answerTone Config.answerToneWait

/-- R117, R118: a ring counted; the answering test is made. -/
def State.countRing (s : State) (n : Line) (rings : Nat) : State :=
  let s1 := (s.setChan n { s.chan n with state := .ringIn, rings := some rings }).startTimer n
    .ringGap Config.ringGap
  if s1.answers n rings then s1.answer n else s1

/-! ## The callee's frames (R132, R134, R143, R144, R149, R150) -/

/-- R110: the callee silence limit starts again; while the line retrains it stays stopped (R153). -/
def State.restartSilence (s : State) (n : Line) (c : InCall) : State :=
  if c.retraining then s else s.startTimer n .silence Config.silenceLimit

/-- R119, R132: the callee enters GREET and sends CAPS. -/
def State.greetCaller (s : State) (n : Line) (c : InCall) : State :=
  let ceiling := (s.lineEntry n).ceiling
  (((s.setIn n { c with offered := some ceiling }).setChanState n .greet).sendFrame n
    (.caps ceiling s.settings.stationTag)).startTimer n .silence Config.silenceLimit

/-- R134: TERMS taken in GREET. -/
def State.takeTerms (s : State) (n : Line) (c : InCall) (ceiling : Rate) (tag : List Byte) : State :=
  let c1 := { c with tag := some tag }
  let s1 := (s.setIn n c1).startTimer n .silence Config.silenceLimit
  if Rate.bps ceiling ≤ Rate.bps (c.offered.getD .r2400) then
    ((((s1.setIn n { c1 with ceiling := some ceiling }).sendFrame n .accept).setChanState n
      .train).stopTimer n .silence).train n ceiling
  else (s1.sendFrame n .decline).endIncoming n

/-- R143: a BLOCK taken in phase RECEIVING. -/
def State.takeBlock (s : State) (n : Line) (c : InCall) (pos : Nat) (data : List Byte) : State :=
  match c.page.bind s.findPage with
  | none => s
  | some p =>
    if Config.blockBytes < data.length then s
    else if (p.pendingBurst.getD pos none).isSome then s
    else
      match s.receiveGrant with
      | none => s
      | some (b, s1) =>
        let p' := { p with pendingBurst := p.pendingBurst.set pos (some ⟨b, data.length * 8⟩) }
        (s1.setStore { s1.store.putPage p' with
          mem := Memory.writeBytes s1.store.mem (blockAddr b) data }).setIn n
            { c with burstDone := false }

/-- R9, R144: whether the callee's TALLY carries HOLD, and its length. -/
def State.tallyHold (s : State) : Nat :=
  if s.freeCount < s.settings.lowMark then s.settings.hold else 0

/-- R144: an empty TALLY, for a CHECK of a burst already complete or with no page open. It carries HOLD by R9, and
*holding* says so (R146). -/
def State.tallyEmpty (s : State) (n : Line) (c : InCall) (bit : Bool) : State :=
  let h := s.tallyHold
  (s.setIn n { c with holding := h != 0 }).sendFrame n (.tally 0 h bit)

/-- R144, steps 1 to 5. -/
def State.tallyBurst (s : State) (n : Line) (p : Page) (last : Nat) (bit : Bool) : State :=
  let s1 := s.trimBurst p last
  match s1.inCall n, s1.findPage p.id with
  | some c, some q =>
    let m := missingSet q last
    let h := s1.tallyHold
    let c1 := { c with holding := h != 0 }
    if m = 0 then
      ((s1.setIn n { c1 with burstDone := true, completedBit := some bit }).sendFrame n
        (.tally m h bit)).putPage q.appendBurst
    else (s1.setIn n c1).sendFrame n (.tally m h bit)
  | _, _ => s1

/-- R13: no position of the pending burst is filled. -/
def Page.burstEmpty (p : Page) : Bool := p.burstEntries.isEmpty

/-- R144: a CHECK taken in RECEIVE. -/
def State.takeCheck (s : State) (n : Line) (c : InCall) (last : Nat) (bit : Bool) : State :=
  match c.phase, c.page.bind s.findPage with
  | some .receiving, some p =>
    if c.burstDone && p.burstEmpty && c.completedBit == some bit then s.tallyEmpty n c bit
    else s.tallyBurst n p last bit
  | _, _ => s.tallyEmpty n c bit

/-- R149: a PAGE HEAD taken in AWAIT_HEAD. -/
def State.takePageHead (s : State) (n : Line) (c : InCall) (w : Nat) (res : Resolution)
    (lines : Nat) : State :=
  match s.createPage .received w res lines (c.tag.getD []) (some n) (.line n) with
  | .error _ => s.sendFrame n .reject
  | .ok (id, s1) =>
    s1.setIn n { c with page := some id, phase := some .receiving, burstDone := false }

/-- R150: MORE and LAST. -/
def State.takePageEnd (s : State) (n : Line) (c : InCall) (last bit : Bool) : State :=
  let after (t : State) : State := if last then t.startTimer n .lastPage Config.lastPageWait else t
  match c.phase, c.page.bind s.findPage with
  | some .receiving, some p =>
    if p.burstEmpty then
      after (((s.setIn n { c with
          page := none, burstDone := false
          phase := some (if last then .afterLast else .awaitHead) }).sendFrame n
            (.taken bit)).endReceived n p.id .complete)
    else s.sendFrame n .reject
  | ph, _ =>
    let ph' := if last then some .afterLast else ph
    after ((s.setIn n { c with phase := ph' }).sendFrame n (.taken bit))

end Sys2Proof.Machine
end

