-- ==== Sys2Proof/Machine/Intake.lean ====
section
/-! DEFINITION. Intake.lean: page intake (03): the encode contexts at work, completion and spoiling of coded pages, and the
Scanner Port. -/

namespace Sys2Proof.Machine

/-! ## The encode contexts (R27, R31) -/

/-- R31: a context that begins coding a page. -/
def Coding.begin (st : Settings) (id w : Nat) (res : Resolution) : Coding :=
  ⟨id, w, res, Encoder.begin (refreshInterval st res) w, []⟩

/-- R44: *adjusted lines* rises for a repaired line. -/
def State.countAdjusted (s : State) (id : Nat) : State :=
  match s.findPage id with
  | some p => s.putPage { p with adjusted := satAdd Config.maxCount16 p.adjusted 1 }
  | none => s

/-- R32, steps 1 to 3: the context with the coded line in its held bits. -/
def Coding.code (c : Coding) (runs : List Nat) : Coding :=
  let (bits, e) := encodeLine .plainDelta c.enc runs
  { c with enc := e, held := c.held ++ bits }

/-- R58, R48: stall. -/
def State.stalled (s : State) : Bool :=
  !s.loader.ready || (match s.scanCtx with | some c => !c.held.isEmpty | none => false)

/-! ## Completion (R14, R49, R55) -/

/-- R14: a coded page becomes COMPLETE: its context drops CODING, the Dispatcher and the waiting lines are told. -/
def State.completePage (s : State) (id : Nat) (party : CodingParty) : State :=
  match s.findPage id with
  | none => s
  | some p =>
    (((s.putPage { p with state := .complete }).dropHolder id (.coding party)).requestPass).tellWaiting

/-! ## Spoiling (R18, R68) -/

/-- The party whose context codes a page, by the page's source. -/
def Page.party (p : Page) : CodingParty := if p.source = .scan then .scan else .link

/-- R18, R33: the context that codes the page becomes idle, its held bits and waiting request with it. -/
def State.idleContext (s : State) (party : CodingParty) : State :=
  match party with
  | .scan => (s.setScanCtx none).setStore { s.store with scanWaiting := false }
  | .link => s.setLinkCtx none
  | .line _ => s

/-- R18, R68: a page in CODING is spoiled: the number of jobs that lost it, and the state after. -/
def State.spoilPage (s : State) (p : Page) : Nat × State :=
  let jobs := s.jobsListing p.id
  let s1 := (s.putPage { p with state := .spoiled }).idleContext p.party
  let s2 := jobs.foldl (fun t j => t.unlistPage p.id j) s1
  let s3 := s2.dropHolder p.id (.coding p.party)
  let s4 := jobs.foldl (fun t j => t.afterPageLoss j.id) s3
  (jobs.length, s4.tellWaiting)

/-! ## Link pages (R52–R54) -/

/-- R53: the first condition that refuses a RASTER LINE. -/
def State.lineRefusal (s : State) (body : List Byte) : Option LineRefusal :=
  if !s.loader.ready then some .notReady
  else
    match parseRasterLine body with
    | none => some .badFormat
    | some (id, _) =>
      match s.findPage id with
      | none => some .notOpen
      | some p =>
        if p.source ≠ .link then some .notLink
        else if p.state ≠ .coding then some .notOpen
        else none

/-- R52, R54: a run list coded by the link context; a refused request spoils the page, reason STORE_FULL. -/
def State.codeLinkLine (s : State) (c : Coding) (tag : Byte) (arrived : List Nat) : State :=
  let runs := repairLine c.width arrived
  let s1 := if runs = arrived then s else s.countAdjusted c.page
  let c1 := c.code runs
  let (s2, left) := State.writeChain (writeFuel c1.held) s1 c.page c1.held
  if left = [] then (s2.setLinkCtx (some { c1 with held := [] })).countLine c.page
  else
    match s2.findPage c.page with
    | none => s2
    | some p =>
      let (jobs, s3) := s2.spoilPage p
      s3.stage (.pageSpoiled p.id p.source .storeFull p.lineCount jobs (some tag))

/-! ## The Scanner Port (R45–R50) -/

/-- R46: the resolution a page start reports. -/
def State.setPort (s : State) (p : PortState) : State := s.setScanner { s.scanner with port := p }

/-- R46: a page start refused. -/
def State.refuseStart (s : State) (c : RefusalCode) : State :=
  ((s.emit .refuse).setPort .discarding).stage (.scanRefused c)

/-- R46: a page start asks for a page. -/
def State.startScan (s : State) (width resolution : Nat) : State :=
  match Resolution.ofCode resolution with
  | none => s.refuseStart .badValue
  | some res =>
    match s.createPage .scan width res 0 [] none .scan with
    | .error c => s.refuseStart c
    | .ok (id, s1) =>
      ((s1.setScanCtx (some (Coding.begin s1.settings id width res))).setPort .scanning).stage
        (.scanPage id width res)

/-- R50: the open scan page is spoiled with reason JAM. -/
def State.jamPage (s : State) : State :=
  match s.scanCtx.bind (fun c => s.findPage c.page) with
  | none => s
  | some p =>
    let (jobs, s1) := s.spoilPage p
    s1.stage (.pageSpoiled p.id p.source .jam p.lineCount jobs none)

/-- R47: the pixels of a line brought to the page's width. -/
def fitPixels (w : Nat) (ps : List Bool) : List Bool :=
  ps.take w ++ List.replicate (w - ps.length) false

/-- R47: a pixel line coded by the scan context. -/
def State.codeScanLine (s : State) (pixels : List Bool) : State :=
  match s.scanCtx with
  | none => s
  | some c =>
    let s1 := if pixels.length = c.width then s else s.countAdjusted c.page
    (s1.setScanCtx (some (c.code (pixelsToRuns (fitPixels c.width pixels))))).writeScanHeld

/-- R49: the scan page completes. -/
def State.endScan (s : State) : State :=
  match s.scanCtx.bind (fun c => s.findPage c.page) with
  | none => s.setPort .idle
  | some p =>
    let s1 := (((s.setScanCtx none).setPort .idle).completePage p.id .scan)
    s1.stage (.pageComplete p.id .scan p.lineCount p.codedBits p.adjusted (!s1.pageInUse p.id))

/-- R45: a transfer taken by the port. A page start in SCANNING spoils the open page first (R50), so all its
notices join the queue before those of the page start and of the end of the event (R205, log entry 14). -/
def State.takeTransfer (s : State) (t : ScanTransfer) : State :=
  match t, s.scanner.port with
  | .pageStart w r, .scanning => (s.jamPage.flushNotices).startScan w r
  | .pageStart w r, .idle | .pageStart w r, .discarding => s.startScan w r
  | .pixelLine ps, .scanning => s.codeScanLine ps
  | .pixelLine _, .idle | .pixelLine _, .discarding => s
  | .pageEnd, .scanning => s.endScan
  | .pageEnd, .idle => s
  | .pageEnd, .discarding => s.setPort .idle

/-- R48: where stall is down, the transfer that stayed with the scanner is taken. -/
def State.takePresented (s : State) : State :=
  match s.scanner.presented with
  | some t =>
    if s.stalled then s else (s.setScanner { s.scanner with presented := none }).takeTransfer t
  | none => s

/-- R45: the scanner presents a transfer. Under stall it stays with the scanner. -/
def State.present (s : State) (t : ScanTransfer) : State :=
  if s.stalled then s.setScanner { s.scanner with presented := some t } else s.takeTransfer t

end Sys2Proof.Machine
end

