-- ==== Sys2Proof/Machine/Loader.lean ====
section
/-! DEFINITION. Loader.lean: the settings (R200), the dial plan's loading (R88), the settings image (11), the load, and
the resets: power-on, the RESET pin and RESTART. -/

namespace Sys2Proof.Machine

/-! ## Settings (R6, R200) -/

/-- R6: the test of the four store pressure settings together; each is 0–4,096 (R200). -/
def Settings.pressureOk (st : Settings) (size : Nat) : Bool :=
  st.receiveReserve ≤ st.lowMark && st.lowMark < st.highMark && st.highMark ≤ size
    && st.receiveReserve ≤ st.answerFloor && st.answerFloor ≤ 4096

/-- R200: setting number k given a value; none where the value is out of its range. The store pressure settings are
tested together afterwards (`Settings.pressureOk`). -/
def Settings.put (st : Settings) (k : Nat) (v : SettingValue) : Option Settings :=
  match k, v with
  | 1, .num n => some { st with receiveReserve := n }
  | 2, .num n => some { st with lowMark := n }
  | 3, .num n => some { st with highMark := n }
  | 4, .num n => some { st with answerFloor := n }
  | 5, .num n => if 1 ≤ n ∧ n ≤ 16 then some { st with refreshCoarse := n } else none
  | 6, .num n => if 1 ≤ n ∧ n ≤ 16 then some { st with refreshFine := n } else none
  | 7, .num n => if n ≤ 4 then some { st with backoffCap := n } else none
  | 8, .num n =>
    some { st with seed :=
      if BitVec.ofNat 16 n = 0 then BitVec.ofNat 16 Config.seed else BitVec.ofNat 16 n }
  | 9, .num n => if n ≤ 3 then some { st with lineReserve := n } else none
  | 10, .tag t => if tagOk t then some { st with stationTag := t } else none
  | 11, .num n => if 1 ≤ n ∧ n ≤ 30 then some { st with hold := n } else none
  | 12, .num n => if n ≤ 3 then some { st with defaultBand := Fin.ofNat 4 n } else none
  | 13, .num n => (Routing.ofCode n).map (fun r => { st with routing := r })
  | 14, .num n => if 1 ≤ n then some { st with pageLimit := n } else none
  | 15, .num n => some { st with standbyDelay := min n 3600 }
  | _, _ => none

/-- R201: the fifteen values in the order of their numbers. -/
def Settings.bytes (st : Settings) : List Byte :=
  num2 st.receiveReserve ++ num2 st.lowMark ++ num2 st.highMark ++ num2 st.answerFloor
    ++ num1 st.refreshCoarse ++ num1 st.refreshFine ++ num1 st.backoffCap ++ num2 st.seed.toNat
    ++ num1 st.lineReserve ++ text st.stationTag ++ num1 st.hold ++ num1 st.defaultBand.val
    ++ num1 st.routing.code ++ num2 st.pageLimit ++ num2 st.standbyDelay

/-! ## The dial plan (R87–R89) -/

/-- R88: a prefix. -/
def prefixOk (p : List Byte) : Bool := p.length ≤ 16 && p.all isDialled

/-- R88: an entry as read, within its ranges. -/
def DialItem.check (d : DialItem) : Option DialEntry :=
  if h : prefixOk d.pfx ∧ d.cls ≤ 7 ∧ d.strip ≤ 16 ∧ 1 ≤ d.mask ∧ d.mask ≤ 15
      ∧ d.prepend.length ≤ 8 ∧ d.prepend.all isDialled then
    (bitOf d.barred).map (fun b =>
      ⟨d.pfx, ⟨d.cls, by omega⟩, d.strip, d.prepend, BitVec.ofNat 4 d.mask, b⟩)
  else none

/-- Whether an entry holds the prefix. -/
def Dispatcher.holdsPrefix (d : Dispatcher) (p : List Byte) : Bool := d.plan.any (fun e => e.pfx == p)

/-- R88: an entry loaded: one with its prefix is replaced, or a free place taken; none where the plan is full. -/
def Dispatcher.loadEntry (d : Dispatcher) (e : DialEntry) : Option Dispatcher :=
  if d.holdsPrefix e.pfx then
    some { d with plan := d.plan.map (fun x => if x.pfx = e.pfx then e else x) }
  else if d.plan.length < Config.planEntries then some { d with plan := d.plan ++ [e] }
  else none

/-! ## The tariff and the line table, as read (R93, R159) -/

/-- R159: an entry within its ranges: its class, band and values. -/
def TariffItem.check (t : TariffItem) : Option (Fin 8 × Fin 4 × TariffEntry) :=
  if h : t.cls ≤ 7 ∧ t.band ≤ 3 ∧ 1 ≤ t.period ∧ t.period ≤ 36000 then
    some (⟨t.cls, by omega⟩, ⟨t.band, by omega⟩, ⟨t.connect, t.pulse, t.period⟩)
  else none

/-- R93: mode, rings to answer and rate ceiling within their ranges. -/
def lineFields (mode rings ceiling : Nat) : Option (LineMode × Nat × Rate) :=
  match LineMode.ofCode mode, Rate.ofBps ceiling with
  | some m, some r => if rings ≤ 15 then some (m, rings, r) else none
  | _, _ => none

/-! ## The settings image (R212) -/

/-- The sections as read. -/
structure Image where
  /-- mode, rings, ceiling, in service of lines 0–3 -/
  lines : List (Nat × Nat × Nat × Nat)
  tariff : List TariffItem
  bands : List Nat
  plan : List DialItem
  settings : List SettingValue
  /-- id, state, budget -/
  accounts : List (Nat × Nat × Nat)
deriving DecidableEq, Repr

def getLineItem (b : List Byte) : Option ((Nat × Nat × Nat × Nat) × List Byte) := do
  let (m, r) ← get1 b
  let (n, r) ← get1 r
  let (c, r) ← get2 r
  let (s, r) ← get1 r
  some ((m, n, c, s), r)

def getAccountItem (b : List Byte) : Option ((Nat × Nat × Nat) × List Byte) := do
  let (i, r) ← get1 b
  let (s, r) ← get1 r
  let (m, r) ← get4 r
  some ((i, s, m), r)

/-- The values of the settings from number k on, `n` of them. -/
def getSettings : Nat → Nat → List Byte → Option (List SettingValue × List Byte)
  | 0, _, b => some ([], b)
  | n + 1, k, b =>
    match getSetting k b with
    | none => none
    | some (v, r) => (getSettings n (k + 1) r).map (fun p => (v :: p.1, p.2))

/-- R212: the sections, where they take exactly the bytes given. -/
def parseImage (b : List Byte) : Option Image := do
  let (l, r) ← getItems getLineItem 4 b
  let (t, r) ← getList getTariffItem r
  let (s, r) ← getItems get1 144 r
  let (p, r) ← getList getDialItem r
  let (v, r) ← getSettings 15 1 r
  let (a, r) ← getList getAccountItem r
  whole (some (⟨l, t, s, p, v, a⟩, r))

/-! ## Applying the image (R214, R215) -/

/-- R93: an image entry of the line table; a failing one leaves the built-in entry and counts. -/
def imageLine (x : Nat × Nat × Nat × Nat) : LineEntry × Nat :=
  match lineFields x.1 x.2.1 x.2.2.1, bitOf x.2.2.2 with
  | some (m, n, r), some v => (⟨m, n, r, v, false⟩, 0)
  | _, _ => (LineEntry.builtIn, 1)

/-- R91: the plan loaded entry by entry; the count is of entries skipped and of repeats that replace. -/
def imagePlan (items : List DialItem) (d : Dispatcher) : Dispatcher × Nat :=
  items.foldl
    (fun acc i =>
      match i.check with
      | none => (acc.1, acc.2 + 1)
      | some e =>
        match acc.1.loadEntry e with
        | none => (acc.1, acc.2 + 1)
        | some d' => (d', acc.2 + if acc.1.holdsPrefix e.pfx then 1 else 0))
    ({ d with plan := [] }, 0)

/-- R159: the image's tariff entries over the built-in ones. DEDUCED: an entry of a class above 7 or a
band above 3 is skipped and counts; one that repeats a class and band stands, and does not count as an item replaced (log
entry 18). -/
def imageTariff (items : List TariffItem) (c : Charge) : Charge × Nat :=
  items.foldl
    (fun acc i =>
      match i.check with
      | none => (acc.1, acc.2 + 1)
      | some (cls, b, e) => (acc.1.setEntry cls b e, acc.2))
    ({ c with tariff := Vector.replicate 32 TariffEntry.builtIn }, 0)

/-- R156: the image's schedule; a slot that names no band takes the built-in band 0 and counts. -/
def imageBands (bands : List Nat) (c : Charge) : Charge × Nat :=
  ({ c with schedule := Vector.ofFn (fun i =>
      let b := bands.getD i.val 0
      if b ≤ 3 then Fin.ofNat 4 b else 0) },
    (bands.filter (fun b => 3 < b)).length)

/-- R214: the image's settings; a value out of range takes the built-in one and counts. -/
def imageSettings (size : Nat) (vs : List SettingValue) : Settings × Nat :=
  let (st, n) := vs.zipIdx.foldl
    (fun acc p =>
      match acc.1.put (p.2 + 1) p.1 with
      | some st => (st, acc.2)
      | none => (acc.1, acc.2 + 1))
    (Settings.builtIn, 0)
  if st.pressureOk size then (st, n)
  else
    ({ st with
      receiveReserve := Settings.builtIn.receiveReserve, lowMark := Settings.builtIn.lowMark
      highMark := Settings.builtIn.highMark, answerFloor := Settings.builtIn.answerFloor }, n + 4)

/-- R165, R214: the image's accounts: opened afresh; an entry skipped or one that replaces an earlier one counts. -/
def imageAccounts (items : List (Nat × Nat × Nat)) (c : Charge) : Charge × Nat :=
  items.foldl
    (fun acc i =>
      if h : i.1 ≤ 63 ∧ (i.2.1 = 1 ∨ i.2.1 = 2) then
        let st := if i.2.1 = 1 then AccountState.opened else .suspended
        let seen := (acc.1.accounts[i.1]'(by omega)).state != .free
        ({ acc.1 with accounts := acc.1.accounts.set i.1 ⟨st, i.2.2, 0, 0, false⟩ (by omega) },
          acc.2 + if seen then 1 else 0)
      else (acc.1, acc.2 + 1))
    (c, 0)

/-- R214: every table and setting at its built-in value. -/
def State.applyDefaults (s : State) : State :=
  ((s.setSettings Settings.builtIn).setDisp
    { s.disp with plan := [], lineTable := PerLine.all LineEntry.builtIn }).setCharge
    { s.charge with
      schedule := Vector.replicate 144 0, tariff := Vector.replicate 32 TariffEntry.builtIn }

/-- R215, step 1: the image applied; the accounts at power-on and the RESET pin alone. The count is of items skipped or
replaced. DEDUCED: at a RESTART the accounts section counts none, since it is not read into the table (log entry 18). -/
def State.applyImage (s : State) (i : Image) (restart : Bool) : State × Nat :=
  let item (k : Nat) : LineEntry × Nat := imageLine (i.lines.getD k (0, 0, 0, 0))
  let (plan, n1) := imagePlan i.plan s.disp
  let (c1, n2) := imageTariff i.tariff s.charge
  let (c2, n3) := imageBands i.bands c1
  let (st, n4) := imageSettings s.storeSize i.settings
  let (c3, n5) := if restart then (c2, 0) else imageAccounts i.accounts c2
  let table : PerLine LineEntry := ⟨(item 0).1, (item 1).1, (item 2).1, (item 3).1⟩
  (((s.setSettings st).setDisp { plan with lineTable := table }).setCharge c3,
    (item 0).2 + (item 1).2 + (item 2).2 + (item 3).2 + n1 + n2 + n3 + n4 + n5)

/-! ## The load (R214, R215) -/

/-- What a load came to: an image, or the first failure. -/
inductive LoadResult where
  | image (i : Image)
  | failure (f : LoadFailure)
deriving DecidableEq, Repr

/-- R129: at READY a line in service enters IDLE, unless the guard of a RESTART still runs. -/
def State.readyLine (s : State) (n : Line) : State :=
  if (s.lineEntry n).inService && ((s.chan n).deadline .restartGuard).isNone then s.enterIdle n
  else s

/-- R190: at READY the paper level is read, and a controller in IDLE starts the standby timer. -/
def State.readyPrinter (s : State) : State :=
  let s1 := if s.printer.paperPin = s.printer.paperOut then s else s.takePaper s.printer.paperPin
  if s1.printer.state = .idle then s1.startStandby else s1

/-- R215: the load ends, steps 1 to 6, and the effects of becoming ready. The two notices join the queue before those of
the effects (R205). DEDUCED: SETTINGS_LOADED carries the dial plan entries and the accounts that stand at the end; a
repeat that replaced an earlier entry is one entry (log entry 18). -/
def State.endLoad (s : State) (restart : Bool) (r : LoadResult) : State :=
  let (s1, skipped, source, cause) :=
    match r with
    | .image i =>
      let (t, n) := s.applyImage i restart
      (t, n, SettingsSource.image, none)
    | .failure f => (s.applyDefaults, 0, SettingsSource.defaults, some f)
  let s2 := s1.setDisp { s1.disp with lfsr := s1.settings.seed }
  let s3 := s2.testMarks.refindBand
  let accounts := if restart then 0 else s3.charge.accountsUsed
  let s4 := s3.stage (.settingsLoaded source cause restart s3.disp.plan.length accounts skipped)
  let s5 := ((s4.setLoader ⟨true, none, some source⟩).stage .ready).flushNotices
  let s6 := if s5.settings.lineReserve = s.settings.lineReserve then s5 else s5.requestPass
  (allLines.foldl State.readyLine s6).readyPrinter

/-- R214: the loader's request for the next byte, and its read timer. -/
def State.requestByte (s : State) (l : Load) : State :=
  (s.setLoader { s.loader with load := some { l with readTimer := s.timebase + Config.readWait } }).emit
    (.configRead l.bytes.length)

/-- R215: a load begins; without a configuration memory it ends at once (R214). -/
def State.beginLoad (s : State) (restart : Bool) : State :=
  let s1 := s.setLoader { s.loader with ready := false }
  if s.straps.configPresent then s1.requestByte ⟨[], 0, 0, restart⟩
  else s1.endLoad restart (.failure .notFitted)

/-- The length S of the sections, once its two bytes have been read. -/
def Load.sections (l : Load) : Nat := (l.bytes.getD 2 0).toNat * 256 + (l.bytes.getD 3 0).toNat

/-- R214: what the bytes read so far come to: a failure, a valid image, or none while the load goes on. The first
failure found counts (log entry 17). -/
def Load.check (l : Load) : Option LoadResult :=
  let n := l.bytes.length
  let s := l.sections
  if (1 ≤ n ∧ l.bytes.getD 0 0 ≠ 0x04#8) ∨ (2 ≤ n ∧ l.bytes.getD 1 0 ≠ 0x16#8) then
    some (.failure .absent)
  else if n < 4 then none
  else if 65536 < 4 + s + 2 then some (.failure .absent)
  else if n < 4 + s then none
  else
    match parseImage ((l.bytes.drop 4).take s) with
    | none => some (.failure .absent)
    | some i =>
      if n < 4 + s + 2 then none
      else if num2 l.sum.toNat = l.bytes.drop (4 + s) then some (.image i)
      else some (.failure .badSum)

/-- One byte taken into the load; the sum is of the bytes before the sum. -/
def Load.take (l : Load) (b : Byte) : Load :=
  let inSum := l.bytes.length < 4 ∨ l.bytes.length < 4 + l.sections
  { l with bytes := l.bytes ++ [b], sum := if inSum then l.sum + BitVec.ofNat 16 b.toNat else l.sum }

/-- R214: a byte delivered to the loader. -/
def State.loadByte (s : State) (l : Load) (b : Byte) : State :=
  let l' := l.take b
  match l'.check with
  | some r => s.endLoad l.restart r
  | none => s.requestByte l'

/-! ## Power-on and the RESET pin (R218) -/

/-- R213, R218: the straps latched and every block in its reset state; the levels that partners hold stay as they are,
and the SRAM keeps its contents (R20). -/
def State.resetBlocks (s : State) (st : Straps) : State :=
  { State.reset with
    straps := st
    store := Store.empty st.storeSize s.store.mem
    scanner := ⟨.idle, s.scanner.presented⟩
    printer := Printer.reset s.printer.paperPin s.printer.readyPin
    link := Link.reset s.link.outputHold
    loader := ⟨false, none, none⟩
    outputs := s.outputs
    pending := s.pending }

/-- R129: every loop on-hook and every pump reset. -/
def State.resetLines (s : State) : State :=
  allLines.foldl (fun t n => (t.emit (.onHook n)).pump n .reset) s

/-- R218: the part's reset, and the load begun in the same event. -/
def State.resetPart (s : State) (st : Straps) : State :=
  (s.resetBlocks st).resetLines.beginLoad false

/-! ## RESTART (R217) -/

/-- R107: the call states. -/
def ChanState.inCall : ChanState → Bool
  | .answering | .seize | .dial | .awaitAnswer | .greet | .train | .send | .receive => true
  | .outOfService | .idle | .ringIn | .clear => false

/-- R217, step 1: the Charge Unit's part of a call ended by RESTART. -/
def State.restartCharge (s : State) (n : Line) : State :=
  match s.charge.meters.get n with
  | some m => s.issueTicket n m .restart
  | none => if (s.outCall n).isSome then s.releaseSlot else s

/-- R129: a line at RESTART: its call ends, on-hook and stop given (R120, R121); every pump is reset, and the guard
starts after a call or a CLEAR. -/
def State.restartLine (s : State) (n : Line) : State :=
  let st := (s.chan n).state
  let s1 := s.restartCharge n
  let s2 := if st.inCall then (s1.emit (.onHook n)).pump n .stop else s1
  let guard : List (Timer × Nat) :=
    if st.inCall || st == .clear then [(.restartGuard, s.timebase + Config.clearGuard)] else []
  ((s2.pump n .reset).setChan n (Channel.bare .outOfService guard)).putLineFree n false

/-- R190: the Print Controller at RESTART. -/
def State.restartPrinter (s : State) : State :=
  let p := s.printer
  let s1 := if p.state.inProgress then s.engine .abandon else s
  (s1.setPrinter { Printer.reset p.paperPin p.readyPin with
    paperOut := p.paperOut, state := if p.state = .standby then .standby else .idle }).putFlag
      flagPrintBusy false

/-- R21: the store at RESTART. -/
def State.restartStore (s : State) : State :=
  let s1 := s.setStore { s.store with
    freeList := List.range s.storeSize, scanWaiting := false, pages := [] }
  if s.store.storeLow then s1.clearStoreLow else s1

/-- R59, R31: the encode contexts and the Scanner Port at RESTART. -/
def State.restartIntake (s : State) : State :=
  let s1 := (s.setScanCtx none).setLinkCtx none
  if s.scanner.port = .scanning then s1.setPort .discarding else s1

/-- R217, step 3: the host's flags cleared; a cleared HOLIDAY finds the band again; no pass request stands. -/
def State.restartFlags (s : State) : State :=
  let holiday := s.flag flagHoliday
  let s1 := s.setDisp { s.disp with
    flags := s.disp.flags &&& ~~~hostFlags, plan := [], passRequest := false }
  if holiday then s1.refindBand else s1

/-- R217: the effect of a RESTART, after its reply. -/
def State.restartPart (s : State) : State :=
  let s1 := allLines.foldl State.restartLine s
  let s2 := (s1.restartStore.setJobs ⟨[], 0⟩).restartPrinter.restartIntake
  s2.restartFlags.beginLoad true

end Sys2Proof.Machine
end

