-- ==== Sys2Proof/Machine/Event.lean ====
section
/-! DEFINITION. Event.lean: what every event ends with, the taking of a record from the input buffer, and timers that run
out. -/

namespace Sys2Proof.Machine

/-! ## The end of an event -/

/-- What comes about at the end of every event, `before` the condition flags as it found them: the transfer that stayed
with the scanner is taken where stall is down (R48), the release conditions are evaluated once (R70), the notices join
their queue (R205), and the arbiter chooses where the link is free (R203). DESIGN CHOICE: where something other than a
jam ended the stall, the notices of the transfer taken join with those of what ended it, in the order of their kinds (log
entry 35). -/
def State.finish (s : State) (before : BitVec 16) : State :=
  ((s.takePresented.evaluateReleases before).flushNotices).arbitrate

/-- An event: its effect, then what every event ends with. -/
def State.event (s : State) (effect : State → State) : State := (effect s).finish s.disp.flags

/-! ## Taking a record (R195, R196) -/

/-- R196: the kinds refused with NOT_READY before the part is ready. A RASTER LINE is refused by its notice (R53). -/
def RecordKind.needsReady : RecordKind → Bool
  | .ident | .unknown | .rasterLine => false
  | _ => true

/-- R195, R196: the oldest record leaves the buffer; before the part is ready it is refused, else it has its effect. -/
def State.takeOldest (s : State) (r : LinkRecord) (effect : LinkRecord → State → State) : State :=
  let s1 := s.setLink s.link.take
  if (recordKind r.kind).needsReady && !s.loader.ready then s1.refuse r .notReady
  else effect r s1

/-- R195: a record command: the oldest record of the input buffer is taken where it is of the command's kind and a
reply place is free; otherwise nothing happens. -/
def State.record (s : State) (k : RecordKind) (effect : LinkRecord → State → State) : State :=
  match s.link.input with
  | r :: _ =>
    if recordKind r.kind = k ∧ s.link.canTake r = true then s.event (fun t => t.takeOldest r effect)
    else s
  | [] => s

/-- A body that parses, or BAD_FORMAT (R196). DEDUCED: it is the first of the tests of a record's own rule, where the rule
gives it no place (log entry 31). -/
def State.parsed {α : Type} (s : State) (r : LinkRecord) (p : Option α) (k : α → State) : State :=
  match p with
  | none => s.refuse r .badFormat
  | some a => k a

/-! ## Timers running out (R110) -/

/-- The expiry of a timer of line n: taken where the timer runs; the time of the expiry has come (log entry 1), the
timer stops, and `k` gets that time. -/
def State.expire (s : State) (n : Line) (t : Timer) (k : State → Nat → State) : State :=
  match (s.chan n).deadline t with
  | none => s
  | some d => s.event (fun u => k ((u.advanceTo d).stopTimer n t) d)

/-- An expiry that an outgoing call takes. -/
def State.expireOut (s : State) (n : Line) (t : Timer) (k : State → OutCall → State) : State :=
  s.expire n t (fun u _ =>
    match u.outCall n with
    | some c => k u c
    | none => u)

end Sys2Proof.Machine
end

