-- ==== Sys2Proof/Machine/AccountRecords.lean ====
section
/-! DEFINITION. AccountRecords.lean: the account records (8.6). -/

namespace Sys2Proof.Machine

/-- R168: an id above 63 is refused with BAD_VALUE. -/
def State.onAccount (s : State) (r : LinkRecord) (id : Nat) (k : Fin 64 → Account → State) : State :=
  if h : id < 64 then k ⟨id, h⟩ (s.account ⟨id, h⟩) else s.refuse r .badValue

/-- R170, R171: a FREE account is refused with NO_SUCH. -/
def State.onUsed (s : State) (r : LinkRecord) (id : Nat) (k : Fin 64 → Account → State) : State :=
  s.onAccount r id fun a x => if x.state = .free then s.refuse r .noSuch else k a x

/-- R171: the account's state, spent and at limit, as reply data. -/
def Account.data (x : Account) : List Byte := num1 x.state.code ++ num4 x.spent ++ yesNo x.atLimit

/-- R169. -/
def recAccountOpen (r : LinkRecord) (s : State) : State :=
  s.parsed r (parseAccountBudget r.body) fun p =>
    s.onAccount r p.1 fun a x =>
      if x.state ≠ .free then s.refuse r .duplicate
      else (s.setAccount a ⟨.opened, p.2, 0, 0, false⟩).replyOk r []

/-- R170, steps 1 to 3: the new budget, and at limit tested afresh. -/
def State.changeBudget (s : State) (a : Fin 64) (budget : Nat) : State :=
  let x := { s.account a with budget := budget }
  let s1 := s.setAccount a x
  if x.reached then (if x.atLimit then s1 else (s1.markLimit a).reportLimit a)
  else s1.setAccount a { x with atLimit := false }

/-- R170. -/
def recAccountSetBudget (r : LinkRecord) (s : State) : State :=
  s.parsed r (parseAccountBudget r.body) fun p =>
    s.onUsed r p.1 fun a _ => ((s.changeBudget a p.2).reevaluateHeld a).replyOk r []

/-- R171. -/
def recAccountSuspend (r : LinkRecord) (s : State) : State :=
  s.parsed r (parseOne r.body) fun id =>
    s.onUsed r id fun a x =>
      let x' := { x with state := AccountState.suspended }
      (s.setAccount a x').replyOk r x'.data

/-- R171. -/
def recAccountResume (r : LinkRecord) (s : State) : State :=
  s.parsed r (parseOne r.body) fun id =>
    s.onUsed r id fun a x =>
      let x' := { x with state := AccountState.opened }
      ((s.setAccount a x').reevaluateHeld a).replyOk r x'.data

/-- R171. -/
def recAccountClear (r : LinkRecord) (s : State) : State :=
  s.parsed r (parseOne r.body) fun id =>
    s.onUsed r id fun a x =>
      let x' := { x with spent := 0, calls := 0, atLimit := false }
      ((s.setAccount a x').reevaluateHeld a).replyOk r x'.data

/-- R79, R169: an account named by any job is in use. -/
def recAccountClose (r : LinkRecord) (s : State) : State :=
  s.parsed r (parseOne r.body) fun id =>
    s.onUsed r id fun a _ =>
      if s.jobs.jobs.any (fun j => j.account == a) then s.refuse r .inUse
      else (s.setAccount a Account.unused).replyOk r []

/-- R169. -/
def recAccountRead (r : LinkRecord) (s : State) : State :=
  s.parsed r (parseOne r.body) fun id =>
    s.onAccount r id fun a x =>
      s.replyOk r (num1 x.state.code ++ num4 x.budget ++ num4 x.spent ++ num4 x.calls
        ++ yesNo x.atLimit ++ num1 (s.accountCalls a))

/-! ## The commands -/

def execAccountOpen (s : State) : Host.Outcome State Fault Refusal :=
  .next (s.record .accountOpen recAccountOpen)
def execAccountSetBudget (s : State) : Host.Outcome State Fault Refusal :=
  .next (s.record .accountSetBudget recAccountSetBudget)
def execAccountSuspend (s : State) : Host.Outcome State Fault Refusal :=
  .next (s.record .accountSuspend recAccountSuspend)
def execAccountResume (s : State) : Host.Outcome State Fault Refusal :=
  .next (s.record .accountResume recAccountResume)
def execAccountClear (s : State) : Host.Outcome State Fault Refusal :=
  .next (s.record .accountClear recAccountClear)
def execAccountClose (s : State) : Host.Outcome State Fault Refusal :=
  .next (s.record .accountClose recAccountClose)
def execAccountRead (s : State) : Host.Outcome State Fault Refusal :=
  .next (s.record .accountRead recAccountRead)

end Sys2Proof.Machine
end

