-- ==== Sys2Proof/Machine/JobRecords.lean ====
section
/-! DEFINITION. JobRecords.lean: JOB OPEN to JOB QUERY (04). -/

namespace Sys2Proof.Machine

/-- R64: a value of JOB OPEN brought into its range. -/
def clampTo (lo hi n : Nat) : Nat := max lo (min hi n)

/-- R64: the fields of a JOB OPEN within their ranges, as the job they open; its released field is evaluated against the
flags (R65). DEDUCED: the gate notice is a yes-or-no value, on 1 and off 0 (log entry 20). -/
def JobOpenBody.check (b : JobOpenBody) (submission : Nat) (flags : BitVec 16) : Option Job :=
  match Priority.ofCode b.priority, ReleaseMode.ofCode b.mode, bitOf b.gate with
  | some p, some m, some g =>
    if h : b.id ≠ 0 ∧ b.account < 64 ∧ 1 ≤ b.limit ∧ b.limit ≤ 15 ∧ b.dials.all dialOk then
      some
        { id := b.id, account := ⟨b.account, h.2.1⟩, priority := p, mode := m
          mask := BitVec.ofNat 16 b.mask, gateNotice := g, retryLimit := b.limit
          retryBase := clampTo 10 3600 b.base, pageWait := clampTo 5 120 b.wait, state := .opened
          cancelling := none, released := releaseCondition m (BitVec.ofNat 16 b.mask) flags
          submission := submission, pages := [], dests := b.dials.map Dest.new }
    else none
  | _, _, _ => none

/-- R63, R65: the job joins the table and the submission counter rises. -/
def State.addJob (s : State) (j : Job) : State :=
  (s.setJobs ⟨s.jobs.jobs ++ [j], (s.jobs.submission + 1) % 4294967296⟩).requestPass

/-- R64, R65. -/
def recJobOpen (r : LinkRecord) (s : State) : State :=
  s.parsed r (parseJobOpen r.body) fun b =>
    if b.dials.length < 1 ∨ Config.jobDests < b.dials.length then s.refuse r .badFormat
    else
      match b.check s.jobs.submission s.disp.flags with
      | none => s.refuse r .badValue
      | some j =>
        if (s.findJob j.id).isSome then s.refuse r .duplicate
        else if (s.account j.account).state = .free then s.refuse r .noSuch
        else if Config.jobRecords ≤ s.jobs.jobs.length ∨ s.jobs.freeDests < j.dests.length then
          s.refuse r .full
        else
          (s.addJob j).replyOk r (num4 j.submission ++ num2 j.retryBase ++ num1 j.pageWait
            ++ yesNo j.released)

/-- R66. -/
def recDestAdd (r : LinkRecord) (s : State) : State :=
  s.parsed r (parseDestAdd r.body) fun p =>
    if p.2.length < 1 ∨ Config.jobDests < p.2.length then s.refuse r .badFormat
    else if !p.2.all dialOk then s.refuse r .badValue
    else
      match s.findJob p.1 with
      | none => s.refuse r .noSuch
      | some j =>
        if !j.holdsPages || j.cancelling.isSome then s.refuse r .state
        else if Config.jobDests < j.dests.length + p.2.length
            ∨ s.jobs.freeDests < p.2.length then s.refuse r .full
        else
          ((s.putJob { j with dests := j.dests ++ p.2.map Dest.new }).requestPass).replyOk r
            (num1 j.dests.length)

/-- R67, R69: the lines that carry a destination of the job and wait for a page are told. -/
def State.tellJob (s : State) (job : Nat) : State :=
  allLines.foldl
    (fun t n =>
      match t.outCall n with
      | some c => if c.job = job then t.tellLine n else t
      | none => t) s

/-- R67: the page joins the list with its JOB holder. -/
def State.attachPage (s : State) (j : Job) (p : Page) : State :=
  let s1 := (s.putJob { j with pages := j.pages ++ [p.id] }).addHolder p.id (.job j.id)
  (if p.state = .complete then s1.requestPass else s1).tellJob j.id

/-- R67. -/
def recPageAttach (r : LinkRecord) (s : State) : State :=
  s.parsed r (parseJobAnd r.body) fun p =>
    match s.findJob p.1 with
    | none => s.refuse r .noSuch
    | some j =>
      if j.state ≠ .opened ∨ j.cancelling.isSome then s.refuse r .state
      else
        match s.findPage p.2 with
        | none => s.refuse r .noSuch
        | some pg =>
          if pg.source = .received then s.refuse r .state
          else if j.pages.contains pg.id then s.refuse r .duplicate
          else if Config.jobPages ≤ j.pages.length then s.refuse r .full
          else (s.attachPage j pg).replyOk r (num1 j.pages.length)

/-- R69: the job becomes CLOSED. -/
def State.closeJob (s : State) (j : Job) : State :=
  ((s.putJob ({ j with state := .closed } : Job).finishDelivered).tellJob j.id).settleJob j.id

/-- R69. -/
def recJobClose (r : LinkRecord) (s : State) : State :=
  s.parsed r (parseJob r.body) fun id =>
    match s.findJob id with
    | none => s.refuse r .noSuch
    | some j =>
      if j.state ≠ .opened ∨ j.cancelling.isSome then s.refuse r .state
      else (s.closeJob j).replyOk r (num1 j.pages.length)

/-- R80: a destination not bound becomes CANCELLED. -/
def Dest.cancelWaiting (d : Dest) : Dest :=
  if d.state.waiting then
    { d with state := .cancelled, lastOutcome := some .cancelled, nextAttempt := none }
  else d

/-- R81: NOW replaces AFTER_PAGE; AFTER_PAGE leaves NOW in place. -/
def Strength.join (new : Strength) : Option Strength → Strength
  | some .now => .now
  | _ => new

/-- R80, R81: the strength passed to every line that carries a destination of the job, lowest line first. -/
def State.cancelLines (s : State) (job : Nat) (st : Strength) : State :=
  allLines.foldl
    (fun t n =>
      match t.outCall n with
      | some c => if c.job = job then t.requestFinish n .cancelled (st == .now) else t
      | none => t) s

/-- R80, R81. -/
def State.cancelJob (s : State) (j : Job) (st : Strength) : State :=
  let st' := st.join j.cancelling
  ((s.putJob { j with cancelling := some st', dests := j.dests.map Dest.cancelWaiting }).cancelLines
    j.id st').settleJob j.id

/-- The number of a job's destinations in a state, as the table stands. -/
def State.countDests (s : State) (job : Nat) (d : DestState) : Nat :=
  match s.findJob job with
  | some j => j.count d
  | none => 0

/-- R80. -/
def recJobCancel (r : LinkRecord) (s : State) : State :=
  s.parsed r (parseJobAnd r.body) fun p =>
    match s.findJob p.1 with
    | none => s.refuse r .noSuch
    | some j =>
      if !j.holdsPages then s.refuse r .state
      else
        match Strength.ofCode p.2 with
        | none => s.refuse r .badValue
        | some st =>
          let s1 := s.cancelJob j st
          s1.replyOk r (num1 (s1.countDests j.id .cancelled - j.count .cancelled)
            ++ num1 (s1.countDests j.id .bound))

/-- R84. -/
def recJobRemove (r : LinkRecord) (s : State) : State :=
  s.parsed r (parseJob r.body) fun id =>
    match s.findJob id with
    | none => s.refuse r .noSuch
    | some j =>
      if j.holdsPages then s.refuse r .state
      else
        (s.setJobs { s.jobs with jobs := s.jobs.jobs.filter (fun k => k.id != id) }).replyOk r []

/-- R85: a set of lines. -/
def lineSet (m : BitVec 4) : List Byte := num1 m.toNat

/-- R85: a destination as JOB QUERY shows it, its next attempt time as the milliseconds still to wait. -/
def Dest.data (d : Dest) (index now : Nat) : List Byte :=
  num1 index ++ text d.dial ++ num1 d.state.code ++ num1 d.attempts
    ++ maybe (fun t => num4 (NextAttempt.left now t)) d.nextAttempt ++ num1 d.delivered
    ++ maybe (fun o => num1 (CallOutcome.code o)) d.lastOutcome
    ++ maybe (fun x => text x.digits ++ num1 x.cls.val ++ lineSet x.mask) d.route
    ++ maybe (fun n => num1 n.val) d.line ++ maybe text d.tag ++ num4 d.charged

/-- R85: the data of a JOB QUERY reply. DEDUCED: the page ids, carried for a job in OPEN or CLOSED alone, stand behind the
page list's length with no presence byte, the state field before them saying whether they are there (log entry 25). -/
def Job.data (j : Job) (first now : Nat) : List Byte :=
  let shown := (j.dests.zipIdx.drop first).take 16
  num2 j.id ++ num1 j.account.val ++ num1 j.priority.code ++ num1 j.mode.code ++ flagSet j.mask
    ++ yesNo j.gateNotice ++ num1 j.retryLimit ++ num2 j.retryBase ++ num1 j.pageWait
    ++ num1 j.state.code ++ maybe (fun x => num1 (Strength.code x)) j.cancelling ++ yesNo j.released
    ++ num4 j.submission ++ num1 j.pages.length
    ++ (if j.holdsPages then j.pages.flatMap num1 else [])
    ++ num1 shown.length ++ shown.flatMap (fun p => p.1.data p.2 now)

/-- R85. -/
def recJobQuery (r : LinkRecord) (s : State) : State :=
  s.parsed r (parseJobAnd r.body) fun p =>
    match s.findJob p.1 with
    | none => s.refuse r .noSuch
    | some j =>
      if j.dests.length ≤ p.2 then s.refuse r .badValue
      else s.replyOk r (j.data p.2 s.timebase)

/-! ## The commands -/

def execJobOpen (s : State) : Host.Outcome State Fault Refusal := .next (s.record .jobOpen recJobOpen)
def execDestAdd (s : State) : Host.Outcome State Fault Refusal := .next (s.record .destAdd recDestAdd)
def execPageAttach (s : State) : Host.Outcome State Fault Refusal :=
  .next (s.record .pageAttach recPageAttach)
def execJobClose (s : State) : Host.Outcome State Fault Refusal :=
  .next (s.record .jobClose recJobClose)
def execJobCancel (s : State) : Host.Outcome State Fault Refusal :=
  .next (s.record .jobCancel recJobCancel)
def execJobRemove (s : State) : Host.Outcome State Fault Refusal :=
  .next (s.record .jobRemove recJobRemove)
def execJobQuery (s : State) : Host.Outcome State Fault Refusal :=
  .next (s.record .jobQuery recJobQuery)

end Sys2Proof.Machine
end

