-- ==== Sys2Proof/Machine/PageRecords.lean ====
section
/-! DEFINITION. PageRecords.lean: PAGE OPEN, RASTER LINE, PAGE CLOSE and PAGE ABORT (03), PAGE READ and PAGE RELEASE (09). -/

namespace Sys2Proof.Machine

/-- R51. DEDUCED: a body that does not parse is refused with BAD_FORMAT before the tests of R51, whose table gives
BAD_FORMAT no place (log entry 31). -/
def recPageOpen (r : LinkRecord) (s : State) : State :=
  s.parsed r (parsePageOpen r.body) fun p =>
    if s.linkCtx.isSome then s.refuse r .state
    else
      match Resolution.ofCode p.2 with
      | none => s.refuse r .badValue
      | some res =>
        match s.createPage .link p.1 res 0 [] none .link with
        | .error c => s.refuse r c
        | .ok (id, s1) =>
          (s1.setLinkCtx (some (Coding.begin s1.settings id p.1 res))).replyOk r (num1 id)

/-- R53: the page id a RASTER LINE named; an empty body names none (log entry 13). -/
def State.namedPage (s : State) (body : List Byte) : Byte :=
  match body with
  | b :: _ => b
  | [] => Config.unnamedPage s.link.intake

/-- R52–R54. -/
def recRasterLine (r : LinkRecord) (s : State) : State :=
  match s.lineRefusal r.body with
  | some c => s.stage (.lineRefused r.tag (s.namedPage r.body) c)
  | none =>
    match parseRasterLine r.body, s.linkCtx with
    | some (_, runs), some c => s.codeLinkLine c r.tag runs
    | _, _ => s

/-- R55. -/
def recPageClose (r : LinkRecord) (s : State) : State :=
  s.parsed r (parseOne r.body) fun id =>
    match s.findPage id with
    | none => s.refuse r .noSuch
    | some p =>
      if p.source ≠ .link ∨ p.state ≠ .coding then s.refuse r .state
      else
        let s1 := (s.setLinkCtx none).completePage id .link
        s1.replyOk r (num2 p.lineCount ++ num4 p.codedBits ++ num2 p.adjusted
          ++ yesNo (!s1.pageInUse id))

/-- R56: the page is spoiled; a scan page's sheet passes through without effect. -/
def State.abortPage (s : State) (p : Page) : Nat × State :=
  let (jobs, s1) := s.spoilPage p
  (jobs, if p.source = .scan then s1.setPort .discarding else s1)

/-- R56. -/
def recPageAbort (r : LinkRecord) (s : State) : State :=
  s.parsed r (parseOne r.body) fun id =>
    match s.findPage id with
    | none => s.refuse r .noSuch
    | some p =>
      if p.state ≠ .coding then s.refuse r .state
      else
        let (jobs, s1) := s.abortPage p
        s1.replyOk r (num1 id ++ num1 jobs)

/-- R191: one block-data item: a chain entry of a page, copied from the store. -/
def State.blockItem (s : State) (tag : Byte) (page : Nat) (e : ChainEntry × Nat) : BlockItem :=
  ⟨tag, page, e.2, e.1.used, packBytes (Memory.blockBits s.store.mem e.1.block e.1.used)⟩

/-- R191. -/
def recPageRead (r : LinkRecord) (s : State) : State :=
  s.parsed r (parsePageRead r.body) fun q =>
    let (id, first, count) := q
    match s.findPage id with
    | none => s.refuse r .noSuch
    | some p =>
      if Holder.forward ∉ p.holders then s.refuse r .state
      else if count < 1 ∨ 32 < count ∨ (p.chain.length ≤ first ∧ p.chain ≠ []) then
        s.refuse r .badValue
      else
        let items := (p.chain.zipIdx.drop first).take count
        if Config.blockPlaces < s.link.blocks.length + items.length then s.refuse r .full
        else
          (s.setLink { s.link with
            blocks := s.link.blocks ++ items.map (s.blockItem r.tag id) }).replyOk r
              (num1 items.length ++ num2 p.chain.length)

/-- R191. -/
def recPageRelease (r : LinkRecord) (s : State) : State :=
  s.parsed r (parseOne r.body) fun id =>
    match s.findPage id with
    | none => s.refuse r .noSuch
    | some p =>
      if Holder.forward ∉ p.holders then s.refuse r .state
      else
        let s1 := s.dropHolder id .forward
        s1.replyOk r (yesNo (!s1.pageInUse id))

/-! ## The commands -/

def execPageOpen (s : State) : Host.Outcome State Fault Refusal :=
  .next (s.record .pageOpen recPageOpen)
def execRasterLine (s : State) : Host.Outcome State Fault Refusal :=
  .next (s.record .rasterLine recRasterLine)
def execPageClose (s : State) : Host.Outcome State Fault Refusal :=
  .next (s.record .pageClose recPageClose)
def execPageAbort (s : State) : Host.Outcome State Fault Refusal :=
  .next (s.record .pageAbort recPageAbort)
def execPageRead (s : State) : Host.Outcome State Fault Refusal :=
  .next (s.record .pageRead recPageRead)
def execPageRelease (s : State) : Host.Outcome State Fault Refusal :=
  .next (s.record .pageRelease recPageRelease)

end Sys2Proof.Machine
end

