-- ==== Sys2Proof/Machine/TableRecords.lean ====
section
/-! DEFINITION. TableRecords.lean: IDENT, CLOCK SET, the table loads and SETTINGS SET (10, 08, 05). -/

namespace Sys2Proof.Machine

/-- R197: the data of an IDENT reply. -/
def State.identData (s : State) : List Byte :=
  num2 416 ++ num1 1 ++ num2 s.storeSize ++ num4 (LinkRate.mbit s.straps.linkRate * 1000000)
    ++ yesNo s.straps.configPresent ++ yesNo s.loader.ready
    ++ maybe (fun x => num1 (SettingsSource.code x)) s.loader.source

/-- R197. -/
def recIdent (r : LinkRecord) (s : State) : State :=
  if r.body = [] then s.replyOk r s.identData else s.refuse r .badFormat

/-- R155: the clock set. -/
def State.setClock (s : State) (day ms : Nat) : State :=
  ((s.setCharge { s.charge with clock := ⟨day, ms⟩ }).putFlag flagClockSet true).refindBand

/-- The band now in force, as reply data. -/
def State.bandData (s : State) : List Byte := num1 s.charge.band.val

/-- R155. -/
def recClockSet (r : LinkRecord) (s : State) : State :=
  s.parsed r (parseClockSet r.body) fun p =>
    if p.1 ≤ 6 ∧ p.2 < Config.dayMs then
      let s1 := s.setClock p.1 p.2
      s1.replyOk r s1.bandData
    else s.refuse r .badValue

/-- R159. -/
def recTariffLoad (r : LinkRecord) (s : State) : State :=
  s.parsed r (parseTariffLoad r.body) fun l =>
    if l.length < 1 ∨ 32 < l.length then s.refuse r .badFormat
    else
      match l.mapM TariffItem.check with
      | none => s.refuse r .badValue
      | some es =>
        (s.setCharge (es.foldl (fun c e => c.setEntry e.1 e.2.1 e.2.2) s.charge)).replyOk r
          (num1 l.length)

/-- R156: the named slots of a day type take the bands of the list. -/
def Charge.loadBands (c : Charge) (day first : Nat) (bands : List Nat) : Charge :=
  { c with schedule := Vector.ofFn (fun i =>
      let at_ := i.val - (day * 48 + first)
      if day * 48 + first ≤ i.val ∧ at_ < bands.length then Fin.ofNat 4 (bands.getD at_ 0)
      else c.schedule.get i) }

/-- R156. -/
def recBandLoad (r : LinkRecord) (s : State) : State :=
  s.parsed r (parseBandLoad r.body) fun p =>
    let (d, f, l) := p
    if l.length < 1 ∨ 48 < l.length then s.refuse r .badFormat
    else if d ≤ 2 ∧ f ≤ 47 ∧ f + l.length ≤ 48 ∧ l.all (fun b => b ≤ 3) then
      let s1 := (s.setCharge (s.charge.loadBands d f l)).refindBand
      s1.replyOk r s1.bandData
    else s.refuse r .badValue

/-- R88. -/
def recDialPlanLoad (r : LinkRecord) (s : State) : State :=
  s.parsed r (parseDialPlanLoad r.body) fun i =>
    match i.check with
    | none => s.refuse r .badValue
    | some e =>
      match s.disp.loadEntry e with
      | none => s.refuse r .full
      | some d => ((s.setDisp d).requestPass).replyOk r (yesNo (!s.disp.holdsPrefix e.pfx))

/-- R89. -/
def recDialPlanRemove (r : LinkRecord) (s : State) : State :=
  s.parsed r (parseDialPlanRemove r.body) fun p =>
    if !prefixOk p then s.refuse r .badValue
    else if !s.disp.holdsPrefix p then s.refuse r .noSuch
    else
      ((s.setDisp { s.disp with plan := s.disp.plan.filter (fun e => e.pfx != p) }).requestPass
        ).replyOk r []

/-- A line number, 0–3. -/
def lineOf (n : Nat) : Option Line := if h : n < 4 then some ⟨n, h⟩ else none

/-- R93. -/
def recLineSet (r : LinkRecord) (s : State) : State :=
  s.parsed r (parseLineSet r.body) fun p =>
    match lineOf p.1, lineFields p.2.1 p.2.2.1 p.2.2.2 with
    | some n, some (m, k, c) =>
      ((s.setLineEntry n { s.lineEntry n with mode := m, rings := k, ceiling := c }).requestPass
        ).replyOk r []
    | _, _ => s.refuse r .badValue

/-- R200: the settings as they would stand after the pairs; none where a value is out of range. -/
def State.trySettings (s : State) (ps : List (Nat × SettingValue)) : Option Settings :=
  match ps.foldlM (fun st p => st.put p.1 p.2) s.settings with
  | none => none
  | some st =>
    if ps.any (fun p => p.1 ≤ 4) && !st.pressureOk s.storeSize then none else some st

/-- R201: the settings take their values, and each changed one acts as its rule gives. DESIGN CHOICE: where marks change
and the receive reserve is lowered by one record, STORE_LOW is tested before the waiting scan request is taken again (log
entry 32). -/
def State.applySettings (s : State) (st : Settings) (seeded : Bool) : State :=
  let s1 := s.setSettings st
  let s2 :=
    if st.lowMark ≠ s.settings.lowMark ∨ st.highMark ≠ s.settings.highMark then s1.testMarks else s1
  let s3 := if st.receiveReserve < s.settings.receiveReserve then s2.retakeScan else s2
  let s4 := if seeded then s3.setDisp { s3.disp with lfsr := st.seed } else s3
  let s5 := if st.lineReserve ≠ s.settings.lineReserve then s4.requestPass else s4
  if st.defaultBand ≠ s.settings.defaultBand ∧ s5.flag flagClockSet = false then s5.refindBand else s5

/-- R200, R201. -/
def recSettingsSet (r : LinkRecord) (s : State) : State :=
  match parseSettings r.body with
  | .badFormat => s.refuse r .badFormat
  | .unknownSetting => s.refuse r .badValue
  | .pairs ps =>
    match s.trySettings ps with
    | none => s.refuse r .badValue
    | some st =>
      let s1 := s.applySettings st (ps.any (fun p => p.1 == 8))
      s1.replyOk r s1.settings.bytes

/-! ## The commands -/

def execIdent (s : State) : Host.Outcome State Fault Refusal := .next (s.record .ident recIdent)
def execClockSet (s : State) : Host.Outcome State Fault Refusal :=
  .next (s.record .clockSet recClockSet)
def execTariffLoad (s : State) : Host.Outcome State Fault Refusal :=
  .next (s.record .tariffLoad recTariffLoad)
def execBandLoad (s : State) : Host.Outcome State Fault Refusal :=
  .next (s.record .bandLoad recBandLoad)
def execDialPlanLoad (s : State) : Host.Outcome State Fault Refusal :=
  .next (s.record .dialPlanLoad recDialPlanLoad)
def execDialPlanRemove (s : State) : Host.Outcome State Fault Refusal :=
  .next (s.record .dialPlanRemove recDialPlanRemove)
def execLineSet (s : State) : Host.Outcome State Fault Refusal := .next (s.record .lineSet recLineSet)
def execSettingsSet (s : State) : Host.Outcome State Fault Refusal :=
  .next (s.record .settingsSet recSettingsSet)

end Sys2Proof.Machine
end

