-- ==== Sys2Proof/Machine/ControlRecords.lean ====
section
/-! DEFINITION. ControlRecords.lean: FLAG SET, the line and print records, STATUS, RESTART and a record of an unknown kind;
and the effect of any record by its kind. -/

namespace Sys2Proof.Machine

/-! ## FLAG SET (R198) -/

/-- R198: each flag of the change set takes its value from the value set; a change of HOLIDAY finds the band again. -/
def State.setHostFlags (s : State) (change value : BitVec 16) : State :=
  let s1 := s.setDisp { s.disp with flags := (s.disp.flags &&& ~~~change) ||| (value &&& change) }
  if s1.flag flagHoliday = s.flag flagHoliday then s1 else s1.refindBand

/-- R198. -/
def recFlagSet (r : LinkRecord) (s : State) : State :=
  s.parsed r (parseFlagSet r.body) fun p =>
    if p.1 &&& ~~~hostFlags ≠ 0 then s.refuse r .badValue
    else
      let s1 := s.setHostFlags p.1 p.2
      s1.replyOk r (flagSet s1.disp.flags)

/-! ## LINE STOP, LINE START and LINE RESET (R124–R127) -/

/-- R124: the line a line control record names. -/
def State.onLine (s : State) (r : LinkRecord) (k : Line → State) : State :=
  s.parsed r (parseOne r.body) fun id =>
    match lineOf id with
    | none => s.refuse r .badValue
    | some n => k n

/-- Line n's *in service* and *stop pending*. -/
def State.putService (s : State) (n : Line) (inService stopPending : Bool) : State :=
  s.setLineEntry n { s.lineEntry n with inService := inService, stopPending := stopPending }

/-- A line taken out of service. -/
def State.outOfService (s : State) (n : Line) : State :=
  ((s.setChan n (Channel.bare .outOfService [])).putService n false false).putLineFree n false

/-- R125: the reply says stopped (0) or pending (1). -/
def recLineStop (r : LinkRecord) (s : State) : State :=
  s.onLine r fun n =>
    match (s.chan n).state with
    | .idle | .ringIn =>
      ((s.outOfService n).stage (.lineState n .outOfService .stop false)).replyOk r (num1 0)
    | .outOfService => s.replyOk r (num1 0)
    | .answering | .seize | .dial | .awaitAnswer | .greet | .train | .send | .receive | .clear =>
      (s.putService n (s.lineEntry n).inService true).replyOk r (num1 1)

/-- R126: the reply says started (0), stop withdrawn (1) or already in service (2). -/
def recLineStart (r : LinkRecord) (s : State) : State :=
  s.onLine r fun n =>
    if (s.chan n).state = .outOfService then
      (((((s.pump n .reset).setChan n (Channel.bare .idle [])).putService n true false).enterIdle n
        ).stage (.lineState n .idle .start false)).replyOk r (num1 0)
    else if (s.lineEntry n).stopPending then
      (s.putService n (s.lineEntry n).inService false).replyOk r (num1 1)
    else s.replyOk r (num1 2)

/-- R127: the call of a line, if it carries one, ends with LINE_RESET and its pump is reset: for an outgoing call that
reset stands for the stop of its end (R121); an incoming call ends with its stop (R120), and the reset follows. -/
def State.resetCall (s : State) (n : Line) : State :=
  match (s.chan n).call with
  | some (.outgoing _) => s.endOutgoing n .lineReset .reset
  | some (.incoming _) => (s.endIncoming n).pump n .reset
  | none => s.pump n .reset

/-- R127: a line left stopped. -/
def State.leftStopped (s : State) (n : Line) : Bool :=
  (s.chan n).state == .outOfService || (s.lineEntry n).stopPending

/-- R127: the line after the reset. -/
def State.resetLine (s : State) (n : Line) : State :=
  match (s.chan n).state with
  | .idle | .outOfService => s.pump n .reset
  | .ringIn | .answering | .seize | .dial | .awaitAnswer | .greet | .train | .send | .receive
  | .clear =>
    let s1 := s.resetCall n
    if s.leftStopped n then s1.outOfService n
    else ((s1.setChan n (Channel.bare .idle [])).putService n true false).enterIdle n

/-- R127. -/
def recLineReset (r : LinkRecord) (s : State) : State :=
  s.onLine r fun n =>
    let ended := (s.chan n).call.isSome
    let s1 := s.resetLine n
    let st := (s1.chan n).state
    (s1.stage (.lineState n st .reset ended)).replyOk r (num1 st.code ++ yesNo ended)

/-! ## PRINT PAUSE and PRINT RESUME (R188) -/

/-- R188: the mark, the controller's state and the number of entries. -/
def Printer.data (p : Printer) : List Byte :=
  yesNo p.paused ++ num1 p.state.code ++ num1 p.queue.length

/-- R188. -/
def recPrintPause (r : LinkRecord) (s : State) : State :=
  if r.body = [] then
    let s1 := s.setPrinter { s.printer with paused := true }
    s1.replyOk r s1.printer.data
  else s.refuse r .badFormat

/-- R188: the mark after the record. DESIGN CHOICE: the controller's state and the number of entries in the reply are
those after the page begun, or the WAKE sent, in the same event; R188 says 'after the record' of the mark alone (log
entry 34). -/
def recPrintResume (r : LinkRecord) (s : State) : State :=
  if r.body = [] then
    let s1 := (s.setPrinter { s.printer with paused := false }).tryBegin
    s1.replyOk r s1.printer.data
  else s.refuse r .badFormat

/-! ## STATUS (R199) -/

/-- R108, R199: one line's fields. -/
def State.lineStatus (s : State) (n : Line) : List Byte :=
  let c := s.chan n
  let rate : Option Rate :=
    match c.call with
    | some (.outgoing x) => x.rate
    | some (.incoming x) => x.rate
    | none => none
  let e := s.lineEntry n
  num1 c.state.code ++ maybe (fun x => num1 (Call.directionCode x)) c.call
    ++ maybe (fun x => num2 (Rate.bps x)) rate
    ++ maybe (fun x => num2 (OutCall.job x)) (s.outCall n)
    ++ maybe (fun x => num1 (OutCall.dest x)) (s.outCall n)
    ++ yesNo e.inService ++ yesNo e.stopPending

/-- R179: the pages in use that hold FORWARD. -/
def Store.forwarded (st : Store) : List Nat :=
  (st.pages.filter (fun p => p.holders.contains .forward)).map (·.id)

/-- R199: the fields of a STATUS reply, in the order of its table. -/
def State.statusData (s : State) : List Byte :=
  yesNo s.link.lost ++ num2 s.link.errors ++ num2 s.link.intake ++ num1 s.link.replies.length
    ++ num1 s.link.notices.length ++ num1 s.link.blocks.length
    ++ num2 s.freeCount ++ yesNo s.store.storeLow ++ num1 s.store.pages.length
    ++ num1 s.jobs.jobs.length ++ num2 s.jobs.freeDests
    ++ flagSet s.disp.flags ++ num1 s.disp.plan.length ++ num1 s.settings.lineReserve
    ++ allLines.flatMap s.lineStatus
    ++ num1 s.charge.clock.day ++ num4 s.charge.clock.ms ++ num1 s.charge.band.val
    ++ num1 s.charge.accountsUsed ++ num1 s.charge.tickets.length ++ num1 s.outgoingCalls
    ++ num1 s.printer.queue.length ++ num1 s.printer.state.code ++ yesNo s.printer.paused
    ++ num1 s.printer.paperOut.toNat ++ num1 s.store.forwarded.length
    ++ maybe num1 s.store.forwarded.head?

/-- R199, R205: the reply shows the lost flag and then clears it. -/
def recStatus (r : LinkRecord) (s : State) : State :=
  if r.body = [] then
    (s.setLink { s.link with lost := false }).replyOk r s.statusData
  else s.refuse r .badFormat

/-! ## RESTART and unknown kinds (R196, R217) -/

/-- R217. -/
def recRestart (r : LinkRecord) (s : State) : State :=
  if r.body = [] then (s.replyOk r []).restartPart else s.refuse r .badFormat

/-- R196. -/
def recUnknown (r : LinkRecord) (s : State) : State := s.refuse r .unknownKind

/-! ## Any record by its kind -/

/-- The effect of a record, by its kind. -/
def recordEffect (r : LinkRecord) (s : State) : State :=
  match recordKind r.kind with
  | .ident => recIdent r s
  | .clockSet => recClockSet r s
  | .tariffLoad => recTariffLoad r s
  | .bandLoad => recBandLoad r s
  | .dialPlanLoad => recDialPlanLoad r s
  | .dialPlanRemove => recDialPlanRemove r s
  | .lineSet => recLineSet r s
  | .settingsSet => recSettingsSet r s
  | .accountOpen => recAccountOpen r s
  | .accountSetBudget => recAccountSetBudget r s
  | .accountSuspend => recAccountSuspend r s
  | .accountResume => recAccountResume r s
  | .accountClear => recAccountClear r s
  | .accountClose => recAccountClose r s
  | .accountRead => recAccountRead r s
  | .jobOpen => recJobOpen r s
  | .destAdd => recDestAdd r s
  | .pageAttach => recPageAttach r s
  | .jobClose => recJobClose r s
  | .jobCancel => recJobCancel r s
  | .jobRemove => recJobRemove r s
  | .jobQuery => recJobQuery r s
  | .pageOpen => recPageOpen r s
  | .rasterLine => recRasterLine r s
  | .pageClose => recPageClose r s
  | .pageAbort => recPageAbort r s
  | .flagSet => recFlagSet r s
  | .lineStop => recLineStop r s
  | .lineStart => recLineStart r s
  | .lineReset => recLineReset r s
  | .printPause => recPrintPause r s
  | .printResume => recPrintResume r s
  | .pageRead => recPageRead r s
  | .pageRelease => recPageRelease r s
  | .status => recStatus r s
  | .restart => recRestart r s
  | .unknown => recUnknown r s

/-! ## The commands -/

def execFlagSet (s : State) : Host.Outcome State Fault Refusal := .next (s.record .flagSet recFlagSet)
def execLineStop (s : State) : Host.Outcome State Fault Refusal :=
  .next (s.record .lineStop recLineStop)
def execLineStart (s : State) : Host.Outcome State Fault Refusal :=
  .next (s.record .lineStart recLineStart)
def execLineReset (s : State) : Host.Outcome State Fault Refusal :=
  .next (s.record .lineReset recLineReset)
def execPrintPause (s : State) : Host.Outcome State Fault Refusal :=
  .next (s.record .printPause recPrintPause)
def execPrintResume (s : State) : Host.Outcome State Fault Refusal :=
  .next (s.record .printResume recPrintResume)
def execStatus (s : State) : Host.Outcome State Fault Refusal := .next (s.record .status recStatus)
def execRestart (s : State) : Host.Outcome State Fault Refusal :=
  .next (s.record .restart recRestart)
def execUnknownKind (s : State) : Host.Outcome State Fault Refusal :=
  .next (s.record .unknown recUnknown)

end Sys2Proof.Machine
end

