-- ==== Sys2Proof/Machine/LinkPorts.lean ====
section
/-! DEFINITION. LinkPorts.lean: the resets, the settings load, the arrival of records, the outbound link, the output hold,
and the scanner (11, 10, 03). -/

namespace Sys2Proof.Machine

/-! ## Resets and the settings load (R213–R215, R218) -/

/-- R218. -/
def execPowerOn (st : Straps) (s : State) : Host.Outcome State Fault Refusal :=
  .next (s.event (fun t => t.resetPart st))

/-- R218. -/
def execResetPin (st : Straps) (s : State) : Host.Outcome State Fault Refusal :=
  .next (s.event (fun t => t.resetPart st))

/-- R214. -/
def execConfigByteRead (b : Byte) (s : State) : Host.Outcome State Fault Refusal :=
  match s.loader.load with
  | none => .next s
  | some l => .next (s.event (fun t => t.loadByte l b))

/-- R214: a failed read ends the load. -/
def execConfigReadTimeout (s : State) : Host.Outcome State Fault Refusal :=
  match s.loader.load with
  | none => .next s
  | some l =>
    .next (s.event (fun t => (t.advanceTo l.readTimer).endLoad l.restart (.failure .noAnswer)))

/-! ## The stream link (R192, R202, R203) -/

/-- R192–R194: the bytes that arrive are framed one by one. -/
def execLinkRecordArrival (bytes : List Byte) (s : State) : Host.Outcome State Fault Refusal :=
  .next (s.event (fun t => t.setLink (bytes.foldl Link.feed t.link)))

/-- R195: a record owed a reply waits while the reply queue is full. -/
def Link.blocked (l : Link) : Bool :=
  match l.input with
  | r :: _ => !l.canTake r
  | [] => false

/-- R195: the arbiter chooses; where that frees the reply place a record waited for, the record is taken in the same
event. -/
def State.chooseAndTake (s : State) : State :=
  let s1 := s.arbitrate
  if s.link.blocked && !s1.link.blocked then
    match s1.link.input with
    | r :: _ => s1.takeOldest r recordEffect
    | [] => s1
  else s1

/-- R202. -/
def execOutputHoldRelease (s : State) : Host.Outcome State Fault Refusal :=
  .next (s.event (fun t => (t.setLink { t.link with outputHold := false }).chooseAndTake))

/-- R202. -/
def execOutputHoldAssert (s : State) : Host.Outcome State Fault Refusal :=
  .next (s.event (fun t => t.setLink { t.link with outputHold := true }))

/-- R202: the last check byte of the record being sent has gone out. -/
def execOutboundLinkFree (s : State) : Host.Outcome State Fault Refusal :=
  match s.link.sending with
  | none => .next s
  | some x =>
    .next (s.event (fun t =>
      ((t.advanceTo x.doneAt).setLink { t.link with sending := none }).chooseAndTake))

/-! ## The scanner (R45–R50) -/

def execScannerPageStart (width resolution : Nat) (s : State) : Host.Outcome State Fault Refusal :=
  .next (s.event (fun t => t.present (.pageStart width resolution)))

def execScannerPixelLine (pixels : List Bool) (s : State) : Host.Outcome State Fault Refusal :=
  .next (s.event (fun t => t.present (.pixelLine pixels)))

def execScannerPageEnd (s : State) : Host.Outcome State Fault Refusal :=
  .next (s.event (fun t => t.present .pageEnd))

/-- Whether a page start stayed with the scanner (R45). -/
def Scanner.startStands (x : Scanner) : Bool :=
  match x.presented with
  | some (.pageStart ..) => true
  | some (.pixelLine _) | some .pageEnd | none => false

/-- R45, R50: a jam is taken at any time. R57, R205: where a page start stayed with the scanner it is taken after the
jam, in the same event: the notices of the spoiling, the step before it, join the queue first, while the page's id is
unused. With no page start standing the rules order no steps, and the notices wait for the end of the event, where they
join in the order of their kinds (log entry 14). -/
def State.takeJam (s : State) : State :=
  match s.scanner.port with
  | .idle => s
  | .scanning =>
    (if s.scanner.startStands then s.jamPage.flushNotices else s.jamPage).setPort .discarding
  | .discarding => s.setPort .idle

def execScannerJam (s : State) : Host.Outcome State Fault Refusal := .next (s.event State.takeJam)

end Sys2Proof.Machine
end

