-- ==== Sys2Proof/Machine/Passes.lean ====
section
/-! DEFINITION. Passes.lean: dial plan lookups (5.1), the dispatch pass (5.4), and the events of the Charge Unit: slot
boundaries and pulses (08). -/

namespace Sys2Proof.Machine

/-! ## Lookup (R90) -/

/-- R90: the entry with the longest prefix the dial string begins with. -/
def longestEntry (plan : List DialEntry) (dial : List Byte) : Option DialEntry :=
  (plan.filter (fun e => e.pfx.isPrefixOf dial)).foldl
    (fun best e =>
      match best with
      | none => some e
      | some b => if b.pfx.length < e.pfx.length then some e else some b) none

/-- R90, step 3: the translated digits. -/
def DialEntry.translate (e : DialEntry) (dial : List Byte) : List Byte := e.prepend ++ dial.drop e.strip

/-- R90: the result of a lookup. -/
inductive Lookup where
  | noRoute
  | barred (r : Route)
  | route (r : Route)
deriving DecidableEq, Repr

def lookup (plan : List DialEntry) (dial : List Byte) : Lookup :=
  match longestEntry plan dial with
  | none => .noRoute
  | some e =>
    let r : Route := ⟨e.translate dial, e.cls, e.mask⟩
    if e.barred then .barred r
    else if r.digits.all (fun c => c == pauseChar) then .noRoute
    else .route r

/-! ## Line selection (R94, R104) -/

/-- R94: IDLE, in service and receive-capable. -/
def State.receivingSpare (s : State) (n : Line) : Bool :=
  (s.chan n).state == .idle && (s.lineEntry n).inService && (s.lineEntry n).mode != .send

/-- R104: the receiving spares other than line n. -/
def State.sparesWithout (s : State) (n : Line) : Nat :=
  (allLines.filter (fun k => k != n && s.receivingSpare k)).length

/-- R104: the line meets all four conditions. -/
def State.lineFits (s : State) (n : Line) (mask : BitVec 4) (p : Priority) : Bool :=
  (s.chan n).state == .idle && (s.lineEntry n).inService && (s.lineEntry n).mode != .receive
    && mask.getLsbD n.val && (p == .flash || s.settings.lineReserve ≤ s.sparesWithout n)

def State.fittingLine (s : State) (mask : BitVec 4) (p : Priority) : Option Line :=
  allLines.find? (fun n => s.lineFits n mask p)

/-! ## The pass (R99–R105) -/

/-- R108, R111: the call context made at a bind. -/
def OutCall.new (j : Job) (index : Nat) (r : Route) : OutCall :=
  { job := j.id, dest := index, route := r, account := j.account, answered := false
    dialPos := none, rate := none, tag := none, ceiling := none, retraining := false, caps := none
    form := none, phase := none, burst := [], missing := 0, rounds := 0, burstBit := false
    pageBit := false, pageEnd := none, holdTotal := 0, endAfter := none, retrainCause := none
    termsSent := false, resends := 0, holdStart := 0, anyBurst := false, anyPage := false }

/-- R105, R111: a bind. -/
def State.bind (s : State) (j : Job) (i : Nat) (d : Dest) (r : Route) (n : Line) : State :=
  let d' := { d with state := .bound, line := some n, route := some r, nextAttempt := none }
  let c : Channel := { Channel.bare .seize [] with call := some (.outgoing (OutCall.new j i r)) }
  ((((((s.putJob (j.setDest i d')).takeSlot).setChan n c).emit (.offHook n)).startTimer n .dialTone
    Config.dialToneWait)).putLineFree n false

/-- R101, steps 1 to 3: a decision without a line. -/
def State.decide (s : State) (j : Job) (i : Nat) (d : Dest) (st : DestState) (o : CallOutcome)
    (r : Option Route) : State :=
  (s.putJob (j.setDest i { d with
    state := st, lastOutcome := some o, route := r, nextAttempt := none })).settleJob j.id

/-- R101, R103, R104: one candidate at its turn. -/
def State.consider (s : State) (j : Job) (i : Nat) (d : Dest) : State :=
  match lookup s.disp.plan d.dial with
  | .noRoute => s.decide j i d .failed .noRoute none
  | .barred r => s.decide j i d .failed .barred (some r)
  | .route r =>
    if !s.gate j.account r.cls then s.decide j i d .heldAccount .accountHeld (some r)
    else
      match (if s.charge.slots < Config.ticketSlots then s.fittingLine r.mask j.priority else none) with
      | some n => s.bind j i d r n
      | none => s.putJob (j.setDest i { d with route := some r })

/-- R100: the job's part of a candidate's conditions. -/
def Job.dispatchable (j : Job) : Bool := j.holdsPages && j.cancelling.isNone && j.released

/-- R100: the destination's part. -/
def State.isCandidate (s : State) (j : Job) (d : Dest) : Bool :=
  (d.state == .pending
      || (d.state == .waitingRetry && d.nextAttempt.all (NextAttempt.hasCome s.timebase)))
    && (match (j.nextPage d).bind s.findPage with
        | some p => p.state == .complete
        | none => false)

/-- R100: dispatch order among jobs: priority, submission number, job id. -/
def Job.dispatchBefore (a b : Job) : Bool :=
  let x := a.priority.code
  let y := b.priority.code
  x < y || (x == y && (a.submission < b.submission || (a.submission == b.submission && a.id ≤ b.id)))

/-- R100: the candidates in dispatch order, as job id and index. -/
def State.candidates (s : State) : List (Nat × Nat) :=
  (stableSort Job.dispatchBefore (s.jobs.jobs.filter Job.dispatchable)).flatMap fun j =>
    (j.dests.zipIdx.filter (fun p => s.isCandidate j p.1)).map (fun p => (j.id, p.2))

/-- One candidate, its records as they stand at its turn. -/
def State.turn (s : State) (x : Nat × Nat) : State :=
  match s.findDest x.1 x.2 with
  | some (j, d) => s.consider j x.2 d
  | none => s

/-- R8: the free count after the event: the transfer that stayed with the scanner may still take blocks in it (R48,
`State.finish`). -/
def State.freeAfterEvent (s : State) : Nat := s.takePresented.freeCount

/-- The notices staged join the queue in the order in which they were staged, which is the order of the event's steps
(R205). -/
def State.queueStaged (s : State) : State :=
  (s.setLink ((s.staged.map (Notice.withFree s.freeAfterEvent)).foldl Link.queueNotice s.link)).setStaged []

/-- R99, R100: a pass. The candidates are taken in dispatch order, and so are their notices. -/
def State.takePass (s : State) : State :=
  (s.candidates.foldl State.turn (s.setDisp { s.disp with passRequest := false })).queueStaged

/-- R99: a standing request is taken as a pass, once the part is ready. -/
def execDispatchPass (s : State) : Host.Outcome State Fault Refusal :=
  if s.disp.passRequest && s.loader.ready then .next (s.event State.takePass) else .next s

/-! ## Slot boundaries and pulses -/

/-- R157: the time at which the next slot begins; now, at a boundary. -/
def State.nextBoundary (s : State) : Nat :=
  let past := s.charge.clock.ms % Config.slotMs
  if past = 0 then s.timebase else s.timebase + (Config.slotMs - past)

/-- R157. -/
def execSlotBoundary (s : State) : Host.Outcome State Fault Refusal :=
  .next (s.event (fun t => (t.advanceTo t.nextBoundary).refindBand))

/-- R162. -/
def execPulseTimerExpiry (n : Line) (s : State) : Host.Outcome State Fault Refusal :=
  match s.charge.meters.get n with
  | some m =>
    .next (s.event (fun t => ((t.advanceTo m.nextExpiry).chargePulse n m).testLimit m.account))
  | none => .next s

end Sys2Proof.Machine
end

