-- ==== Sys2Proof/Machine/PrintEvents.lean ====
section
/-! DEFINITION. PrintEvents.lean: the print engine's events and the Print Controller's timers (09). -/

namespace Sys2Proof.Machine

/-- R183: READY rises: a held page goes on, with what waited for the rise; else what waits begins. -/
def State.takeReady (s : State) : State :=
  let s1 := s.setPrinter { s.printer with readyPin := true }
  if s.printer.state = .held then
    let s2 := s1.setPrinter { s1.printer with
      state := .printing, holdTimer := none, deferred := none }
    match s.printer.deferred with
    | some i => s2.handItem i
    | none => s2
  else s1.tryBegin

def execReadyRises (s : State) : Host.Outcome State Fault Refusal := .next (s.event State.takeReady)

/-- R183: READY falls: in PRINTING the page is held. -/
def State.takeFall (s : State) : State :=
  let s1 := s.setPrinter { s.printer with readyPin := false }
  if s.printer.state = .printing then
    s1.setPrinter { s1.printer with
      state := .held, holdTimer := some (s.timebase + Config.printHold) }
  else s1

def execReadyFalls (s : State) : Host.Outcome State Fault Refusal := .next (s.event State.takeFall)

/-- R186: a report that leaves the level held as it was is not a change. -/
def State.reportPaper (s : State) (out : Bool) : State :=
  let s1 := s.setPrinter { s.printer with paperPin := out }
  if s.printer.paperOut = out then s1 else s1.takePaper out

def execPaperChange (out : Bool) (s : State) : Host.Outcome State Fault Refusal :=
  .next (s.event (fun t => t.reportPaper out))

/-- R184: a JAM: a fault of the page in progress, or a notice where there is none; in FAULTED it is ignored. -/
def State.takePrinterJam (s : State) : State :=
  match s.printer.state with
  | .printing | .held => s.printFault .jam
  | .idle | .standby | .waking => s.stage (.printerState .jam none none)
  | .faulted => s

def execPrinterJam (s : State) : Host.Outcome State Fault Refusal :=
  .next (s.event State.takePrinterJam)

/-- R182: LINE_ACCEPTED with nothing handed is ignored. -/
def execLineAccepted (s : State) : Host.Outcome State Fault Refusal :=
  match s.printer.handed with
  | some i => .next (s.event (fun t => t.accept i))
  | none => .next s

/-- R183, R184: the hold timer runs out: a fault with cause HOLD. -/
def execPrintHoldTimerExpiry (s : State) : Host.Outcome State Fault Refusal :=
  match s.printer.holdTimer with
  | some d => .next (s.event (fun t => (t.advanceTo d).printFault .hold))
  | none => .next s

/-- R189: the standby timer runs out. -/
def execStandbyTimerExpiry (s : State) : Host.Outcome State Fault Refusal :=
  match s.printer.standbyTimer with
  | some d => .next (s.event (fun t => (t.advanceTo d).enterStandby))
  | none => .next s

end Sys2Proof.Machine
end

