-- ==== Sys2Proof/Machine/LineEvents.lean ====
section
/-! DEFINITION. LineEvents.lean: the events of the line interface and the pump (06, R109 to R119). -/

namespace Sys2Proof.Machine

/-- R117: a RING, in IDLE and RING_IN. -/
def State.takeRing (s : State) (n : Line) : State :=
  let c := s.chan n
  match c.state with
  | .idle => (s.putLineFree n false).countRing n 1
  | .ringIn => s.countRing n (satAdd 255 (c.rings.getD 0) 1)
  | .outOfService | .answering | .seize | .dial | .awaitAnswer | .greet | .train | .send | .receive
  | .clear => s

def execRing (n : Line) (s : State) : Host.Outcome State Fault Refusal :=
  match (s.chan n).state with
  | .idle | .ringIn => .next (s.event (fun t => t.takeRing n))
  | .outOfService | .answering | .seize | .dial | .awaitAnswer | .greet | .train | .send | .receive
  | .clear => .next s

/-- An event that an outgoing call takes in the states `ok`; otherwise it is ignored (R109). -/
def State.onOutgoing (s : State) (n : Line) (ok : ChanState → Bool) (k : State → OutCall → State) :
    State :=
  match s.outCall n with
  | some c => if ok (s.chan n).state then s.event (fun t => k t c) else s
  | none => s

/-- An event that an incoming call takes in the states `ok`; otherwise it is ignored (R109). -/
def State.onIncoming (s : State) (n : Line) (ok : ChanState → Bool) (k : State → InCall → State) :
    State :=
  match s.inCall n with
  | some c => if ok (s.chan n).state then s.event (fun t => k t c) else s
  | none => s

/-- R109: DIAL and AWAIT_ANSWER. -/
def ChanState.calling : ChanState → Bool
  | .dial | .awaitAnswer => true
  | _ => false

/-- R112. -/
def execTone (n : Line) (s : State) : Host.Outcome State Fault Refusal :=
  .next (s.onOutgoing n (· == .seize) fun t c =>
    ((t.stopTimer n .dialTone).setChanState n .dial).dialStep n c 0)

/-- R112: taken while a run is handed, that is, while the pump dial wait runs. -/
def execDialDone (n : Line) (s : State) : Host.Outcome State Fault Refusal :=
  if ((s.chan n).deadline .pumpDial).isSome then
    .next (s.onOutgoing n (· == .dial) fun t c =>
      (t.stopTimer n .pumpDial).dialStep n c (c.dialPos.getD 0))
  else .next s

/-- R113. -/
def execBusyTone (n : Line) (s : State) : Host.Outcome State Fault Refusal :=
  .next (s.onOutgoing n ChanState.calling fun t _ => (t.stopDialling n).hangUp n .busy)

/-- R113. -/
def execVoice (n : Line) (s : State) : Host.Outcome State Fault Refusal :=
  .next (s.onOutgoing n ChanState.calling fun t _ => (t.stopDialling n).hangUp n .notFax)

/-- R113, R161: a remote fax station answers: GREET and the CAPS wait, the charge, and the at-limit test. -/
def State.answered (s : State) (n : Line) (c : OutCall) : State :=
  let c' := { c with answered := true, dialPos := none }
  let s1 := (((s.stopDialling n).stopTimer n .answer).setOut n c').setChanState n .greet
  ((s1.startTimer n .caps Config.capsWait).chargeAnswer n c').testLimit c.account

/-- R113, R119. -/
def execAnswerTone (n : Line) (s : State) : Host.Outcome State Fault Refusal :=
  match (s.chan n).call with
  | some (.outgoing _) => .next (s.onOutgoing n ChanState.calling fun t c => t.answered n c)
  | some (.incoming _) =>
    .next (s.onIncoming n (· == .answering) fun t c => (t.stopTimer n .answerTone).greetCaller n c)
  | none => .next s

/-- R111–R114: the outcome of a LOOP_LOST in a state of an outgoing call (R122). -/
def loopLostOutcome : ChanState → CallOutcome
  | .seize | .dial => .noTone
  | .awaitAnswer => .noAnswer
  | _ => .remoteGone

/-- R109: LOOP_LOST, in every call state. -/
def execLoopLost (n : Line) (s : State) : Host.Outcome State Fault Refusal :=
  match (s.chan n).call with
  | some (.outgoing _) =>
    .next (s.onOutgoing n ChanState.inCall fun t _ =>
      t.hangUp n (loopLostOutcome (t.chan n).state))
  | some (.incoming _) => .next (s.onIncoming n ChanState.inCall fun t _ => t.callerLost n)
  | none => .next s

/-- R109: the states in which CARRIER_LOST is taken. -/
def ChanState.carrying : ChanState → Bool
  | .answering | .greet | .train | .send | .receive => true
  | _ => false

/-- R114, R119. -/
def execCarrierLost (n : Line) (s : State) : Host.Outcome State Fault Refusal :=
  match (s.chan n).call with
  | some (.outgoing _) =>
    .next (s.onOutgoing n ChanState.carrying fun t _ => t.hangUp n .remoteGone)
  | some (.incoming _) => .next (s.onIncoming n ChanState.carrying fun t _ => t.callerLost n)
  | none => .next s

/-! ## TRAINED (R135, R142, R153) -/

/-- R135: the caller enters SEND and opens its page. -/
def State.callerTrained (s : State) (n : Line) (c : OutCall) (r : Rate) : State :=
  let c' := { c with rate := some (trainedRate c.ceiling r) }
  let s1 := ((s.stopTimer n .train).setOut n c').setChanState n .send
  match s1.nextPage c' with
  | .complete p => s1.openPage n c' p
  | .coding | .finished | .awaited => s1

/-- R142: TRAINED in RETRAINING: the positions resent, or the CHECK sent again, by the retrain cause. -/
def State.callerRetrained (s : State) (n : Line) (c : OutCall) (r : Rate) : State :=
  let c' := { c with
    rate := some (trainedRate c.ceiling r), retraining := false, retrainCause := none }
  let s1 := s.stopTimer n .train
  match c.retrainCause with
  | some .remote => s1.sendPositions n { c' with phase := some .checking } (fun _ => false)
  | some .stepDown | none => s1.resendMissing n { c' with rounds := 0 }

/-- R135: the callee enters RECEIVE. -/
def State.calleeTrained (s : State) (n : Line) (c : InCall) (r : Rate) : State :=
  (((s.stopTimer n .train).setIn n { c with
    rate := some (trainedRate c.ceiling r), phase := some .awaitHead }).setChanState n
      .receive).startTimer n .silence Config.silenceLimit

/-- R153: TRAINED while the callee retrains. -/
def State.calleeRetrained (s : State) (n : Line) (c : InCall) (r : Rate) : State :=
  ((s.stopTimer n .train).setIn n { c with
    rate := some (trainedRate c.ceiling r), retraining := false }).startTimer n .silence
      Config.silenceLimit

/-- R109: TRAINED, in TRAIN, and in SEND and RECEIVE during a retrain. -/
def execTrained (n : Line) (r : Rate) (s : State) : Host.Outcome State Fault Refusal :=
  match (s.chan n).call, (s.chan n).state with
  | some (.outgoing c), .train => .next (s.event (fun t => t.callerTrained n c r))
  | some (.outgoing c), .send =>
    if c.phase = some .retraining then .next (s.event (fun t => t.callerRetrained n c r))
    else .next s
  | some (.incoming c), .train => .next (s.event (fun t => t.calleeTrained n c r))
  | some (.incoming c), .receive =>
    if c.retraining then .next (s.event (fun t => t.calleeRetrained n c r)) else .next s
  | _, _ => .next s

end Sys2Proof.Machine
end

