-- ==== Sys2Proof/Machine/Frames.lean ====
section
/-! DEFINITION. Frames.lean: the frames of the line procedure (07). A frame that is not received (R130), or that the
procedure gives no effect where it is taken, changes nothing. -/

namespace Sys2Proof.Machine

/-! ## Greeting (R133–R135) -/

/-- R133: TERMS sent, the first time or again, and the TERMS reply wait started. -/
def State.sendTerms (s : State) (n : Line) (form : Form) (ceiling : Rate) : State :=
  (s.sendFrame n (.terms form ceiling s.settings.stationTag)).startTimer n .termsReply
    Config.termsReplyWait

/-- R133, step 3: the remote's tag recorded in the destination. -/
def State.recordTag (s : State) (c : OutCall) (tag : List Byte) : State :=
  match s.findDest c.job c.dest with
  | some (j, d) => s.putJob (j.setDest c.dest { d with tag := some tag })
  | none => s

/-- R133: the first CAPS, or one taken after TERMS has been sent. -/
def State.takeCaps (s : State) (n : Line) (c : OutCall) (caps : Caps) (tag : List Byte) : State :=
  if c.termsSent then s.sendTerms n (c.form.getD .plainOnly) (c.ceiling.getD .r2400)
  else
    let ceiling := Rate.lesser (s.lineEntry n).ceiling caps.maxRate
    let c' := { c with
      caps := some caps, tag := some tag, form := some caps.forms, ceiling := some ceiling
      termsSent := true }
    (((s.stopTimer n .caps).setOut n c').recordTag c tag).sendTerms n caps.forms ceiling

def execCaps (n : Line) (good : Bool) (content : List Byte) (s : State) :
    Host.Outcome State Fault Refusal :=
  match received good (parseCaps content) with
  | some (caps, tag) => .next (s.onOutgoing n (· == .greet) fun t c => t.takeCaps n c caps tag)
  | none => .next s

/-- R134. -/
def execTerms (n : Line) (good : Bool) (content : List Byte) (s : State) :
    Host.Outcome State Fault Refusal :=
  match received good (parseTerms content) with
  | some (_, ceiling, tag) =>
    .next (s.onIncoming n (· == .greet) fun t c => t.takeTerms n c ceiling tag)
  | none => .next s

/-- R135: taken while the TERMS reply wait runs. -/
def State.awaitsTermsReply (s : State) (n : Line) : Bool :=
  ((s.chan n).deadline .termsReply).isSome

/-- R135. -/
def execAccept (n : Line) (good : Bool) (content : List Byte) (s : State) :
    Host.Outcome State Fault Refusal :=
  match received good (parseEmpty content), s.awaitsTermsReply n with
  | some _, true =>
    .next (s.onOutgoing n (· == .greet) fun t c =>
      ((t.stopTimer n .termsReply).setChanState n .train).train n (c.ceiling.getD .r2400))
  | _, _ => .next s

/-- R135. -/
def execDecline (n : Line) (good : Bool) (content : List Byte) (s : State) :
    Host.Outcome State Fault Refusal :=
  match received good (parseEmpty content), s.awaitsTermsReply n with
  | some _, true => .next (s.onOutgoing n (· == .greet) fun t _ => t.hangUp n .declined)
  | _, _ => .next s

/-! ## RETRAIN (R142, R153) -/

/-- The lesser of a frame's ceiling and the agreed ceiling. -/
def newCeiling (agreed : Option Rate) (r : Rate) : Rate := trainedRate agreed r

/-- R142: the caller takes RETRAIN in CHECKING alone. -/
def State.callerRetrain (s : State) (n : Line) (c : OutCall) (r : Rate) : State :=
  let ceiling := newCeiling c.ceiling r
  ((s.stopTimer n .tally).setOut n { c with
    ceiling := some ceiling, retraining := true, phase := some .retraining
    retrainCause := some .remote }).train n ceiling

/-- R153: the callee takes RETRAIN in RECEIVE. -/
def State.calleeRetrain (s : State) (n : Line) (c : InCall) (r : Rate) : State :=
  let ceiling := newCeiling c.ceiling r
  ((s.stopTimer n .silence).setIn n { c with ceiling := some ceiling, retraining := true }).train n
    ceiling

/-- A frame that the caller takes in SEND in the phases `ok`. -/
def State.onSend (s : State) (n : Line) (ok : OutCall → Bool) (k : State → OutCall → State) :
    State :=
  match s.outCall n with
  | some c => if (s.chan n).state == .send && ok c then s.event (fun t => k t c) else s
  | none => s

/-- A frame that the callee takes in RECEIVE. -/
def State.onReceive (s : State) (n : Line) (k : State → InCall → State) : State :=
  s.onIncoming n (· == .receive) k

def execRetrain (n : Line) (good : Bool) (content : List Byte) (s : State) :
    Host.Outcome State Fault Refusal :=
  match received good (parseRetrain content), (s.chan n).call with
  | some r, some (.outgoing _) =>
    .next (s.onSend n (fun c => c.phase == some .checking) fun t c => t.callerRetrain n c r)
  | some r, some (.incoming _) => .next (s.onReceive n fun t c => t.calleeRetrain n c r)
  | _, _ => .next s

/-! ## Pages and bursts, the callee (R143, R144, R149, R150) -/

/-- R149. -/
def execPageHead (n : Line) (good : Bool) (content : List Byte) (s : State) :
    Host.Outcome State Fault Refusal :=
  match received good (parsePageHead content) with
  | some (w, res, _, lines) =>
    .next (s.onReceive n fun t c =>
      match c.phase with
      | some .awaitHead => t.takePageHead n c w res lines
      | some .receiving => t.sendFrame n .reject
      | some .afterLast | none => t)
  | none => .next s

/-- R143. -/
def execBlock (n : Line) (good : Bool) (content : List Byte) (s : State) :
    Host.Outcome State Fault Refusal :=
  match received good (parseBlock content) with
  | some (pos, data) =>
    .next (s.onReceive n fun t c =>
      let u := t.restartSilence n c
      match c.phase with
      | some .receiving => u.takeBlock n c pos data
      | some .awaitHead | some .afterLast | none => u)
  | none => .next s

/-- R144. -/
def execCheck (n : Line) (good : Bool) (content : List Byte) (s : State) :
    Host.Outcome State Fault Refusal :=
  match received good (parseCheck content) with
  | some (last, bit) =>
    .next (s.onReceive n fun t c => (t.restartSilence n c).takeCheck n c last bit)
  | none => .next s

/-- R110: WAIT keeps the callee silence limit running. -/
def execWait (n : Line) (good : Bool) (content : List Byte) (s : State) :
    Host.Outcome State Fault Refusal :=
  match received good (parseEmpty content) with
  | some _ => .next (s.onReceive n fun t c => t.restartSilence n c)
  | none => .next s

/-- R150. -/
def execMore (n : Line) (good : Bool) (content : List Byte) (s : State) :
    Host.Outcome State Fault Refusal :=
  match received good (parseBit content) with
  | some bit => .next (s.onReceive n fun t c => (t.restartSilence n c).takePageEnd n c false bit)
  | none => .next s

/-- R150. -/
def execLast (n : Line) (good : Bool) (content : List Byte) (s : State) :
    Host.Outcome State Fault Refusal :=
  match received good (parseBit content) with
  | some bit => .next (s.onReceive n fun t c => (t.restartSilence n c).takePageEnd n c true bit)
  | none => .next s

/-- R150: taken in GREET, TRAIN and RECEIVE. -/
def execBye (n : Line) (good : Bool) (content : List Byte) (s : State) :
    Host.Outcome State Fault Refusal :=
  match received good (parseEmpty content) with
  | some _ =>
    .next (s.onIncoming n (fun st => st == .greet || st == .train || st == .receive) fun t _ =>
      t.endIncoming n)
  | none => .next s

/-! ## Bursts and page ends, the caller (R141, R145, R148) -/

/-- R141: a TALLY of the burst in progress. -/
def State.takeTally (s : State) (n : Line) (c : OutCall) (missing : BitVec 32) (hold : Nat) : State :=
  let m := c.readMissing missing
  let c' :=
    if m = 0 then { c with missing := 0, burst := [] }
    else { c with missing := m, rounds := c.rounds + 1 }
  let s1 := (s.stopTimer n .tally).setOut n c'
  if hold = 0 ∨ (c'.missing ≠ 0 ∧ Config.stepDownRound ≤ c'.rounds ∧ (Rate.below c'.rateNow).isNone)
  then s1.tallyAction n c'
  else s1.beginHold n c' hold

def execTally (n : Line) (good : Bool) (content : List Byte) (s : State) :
    Host.Outcome State Fault Refusal :=
  match received good (parseTally content) with
  | some (m, hold, bit) =>
    .next (s.onSend n (fun c => c.phase == some .checking && c.burstBit == bit) fun t c =>
      t.takeTally n c m hold)
  | none => .next s

/-- R145: RESUME ends a hold. -/
def execResume (n : Line) (good : Bool) (content : List Byte) (s : State) :
    Host.Outcome State Fault Refusal :=
  match received good (parseEmpty content) with
  | some _ => .next (s.onSend n (fun c => c.phase == some .held) fun t c => t.endHold n c)
  | none => .next s

/-- R73, R148: *delivered* rises by one. -/
def State.countDelivered (s : State) (c : OutCall) : State :=
  match s.findDest c.job c.dest with
  | some (j, d) => s.putJob (j.setDest c.dest { d with delivered := d.delivered + 1 })
  | none => s

/-- R148: a confirming TAKEN, and what follows the frame that was sent. -/
def State.takeTaken (s : State) (n : Line) (c : OutCall) : State :=
  let c' := { c with pageEnd := none }
  let s1 := ((s.stopTimer n .pageEndReply).countDelivered c).setOut n c'
  let s2 :=
    match (s1.chan n).recoder with
    | some r => (s1.setChan n { s1.chan n with recoder := none }).dropHolder r.page (.sending n)
    | none => s1
  match c.pageEnd with
  | some .last => s2.byeAndEnd n ((c.endAfter.map EndCause.outcome).getD .done)
  | some .more | none => s2.afterMore n c'

def execTaken (n : Line) (good : Bool) (content : List Byte) (s : State) :
    Host.Outcome State Fault Refusal :=
  match received good (parseBit content) with
  | some bit =>
    .next (s.onSend n (fun c => c.phase == some .ending && c.pageBit == bit) fun t c =>
      t.takeTaken n c)
  | none => .next s

/-- R148: REJECT, from the sending of a PAGE HEAD to the TAKEN of its page. DEDUCED: its BYE is sent in RETRAINING too
(log entry 15). -/
def execReject (n : Line) (good : Bool) (content : List Byte) (s : State) :
    Host.Outcome State Fault Refusal :=
  match received good (parseEmpty content) with
  | some _ =>
    .next (s.onSend n (fun c => c.phase != some .pageWait) fun t _ => t.byeAndEnd n .pageRejected)
  | none => .next s

end Sys2Proof.Machine
end

