-- ==== Sys2Proof/Machine/Timers.lean ====
section
/-! DEFINITION. Timers.lean: the line timers that run out (R110) and the next attempt times (R78). An expiry has an effect
only where its timer runs. -/

namespace Sys2Proof.Machine

/-- R111. -/
def execDialToneWaitExpiry (n : Line) (s : State) : Host.Outcome State Fault Refusal :=
  .next (s.expireOut n .dialTone fun t _ => t.hangUp n .noTone)

/-- R112: the pump is reset. -/
def execPumpDialWaitExpiry (n : Line) (s : State) : Host.Outcome State Fault Refusal :=
  .next (s.expireOut n .pumpDial fun t _ => t.endOutgoing n .noTone .reset)

/-- R112: dialling goes on past the one pause. -/
def execPauseWaitExpiry (n : Line) (s : State) : Host.Outcome State Fault Refusal :=
  .next (s.expireOut n .pause fun t c => t.dialStep n c (c.dialPos.getD 0 + 1))

/-- R113. -/
def execAnswerWaitExpiry (n : Line) (s : State) : Host.Outcome State Fault Refusal :=
  .next (s.expireOut n .answer fun t _ => t.hangUp n .noAnswer)

/-- R114. -/
def execCapsWaitExpiry (n : Line) (s : State) : Host.Outcome State Fault Refusal :=
  .next (s.expireOut n .caps fun t _ => t.hangUp n .remoteGone)

/-- R114. -/
def execTermsReplyWaitExpiry (n : Line) (s : State) : Host.Outcome State Fault Refusal :=
  .next (s.expireOut n .termsReply fun t _ => t.hangUp n .remoteGone)

/-- R110: the caller's call ends with REMOTE_GONE; the callee has lost its caller. -/
def execTrainWaitExpiry (n : Line) (s : State) : Host.Outcome State Fault Refusal :=
  .next (s.expire n .train fun t _ =>
    match (t.chan n).call with
    | some (.outgoing _) => t.hangUp n .remoteGone
    | some (.incoming _) => t.callerLost n
    | none => t)

/-- R140: the same CHECK again, at most three times, then REMOTE_GONE. -/
def State.tallyExpiry (s : State) (n : Line) (c : OutCall) : State :=
  if c.resends < Config.maxResends then
    ((s.setOut n { c with resends := c.resends + 1 }).sendFrame n
      (.check c.lastPos c.burstBit)).startTimer n .tally Config.tallyWait
  else s.hangUp n .remoteGone

def execTallyWaitExpiry (n : Line) (s : State) : Host.Outcome State Fault Refusal :=
  .next (s.expireOut n .tally fun t c => t.tallyExpiry n c)

/-- R145: the hold ends. -/
def execHoldTimerExpiry (n : Line) (s : State) : Host.Outcome State Fault Refusal :=
  .next (s.expireOut n .hold fun t c => t.endHold n c)

/-- R145, R151: WAIT, and the next one 5 s after this one was due. -/
def execWaitKeepaliveExpiry (n : Line) (s : State) : Host.Outcome State Fault Refusal :=
  .next (s.expire n .keepalive fun t d =>
    (t.sendFrame n .wait).setChan n ((t.chan n).start .keepalive (d + Config.keepalive)))

/-- R151: LAST and BYE; PARTIAL. -/
def execPageWaitExpiry (n : Line) (s : State) : Host.Outcome State Fault Refusal :=
  .next (s.expireOut n .pageWait fun t c => (t.stopWaits n).lastAndBye n c .partSent)

/-- R147: the same page end again, at most three times, then REMOTE_GONE. -/
def State.pageEndExpiry (s : State) (n : Line) (c : OutCall) : State :=
  if c.resends < Config.maxResends then
    ((s.setOut n { c with resends := c.resends + 1 }).sendFrame n
      (if c.pageEnd = some .last then .last c.pageBit else .more c.pageBit)).startTimer n
        .pageEndReply Config.pageEndReplyWait
  else s.hangUp n .remoteGone

def execPageEndReplyWaitExpiry (n : Line) (s : State) : Host.Outcome State Fault Refusal :=
  .next (s.expireOut n .pageEndReply fun t c => t.pageEndExpiry n c)

/-- R117: the line returns to IDLE. -/
def execRingGapExpiry (n : Line) (s : State) : Host.Outcome State Fault Refusal :=
  .next (s.expire n .ringGap fun t _ => (t.setChan n (Channel.bare .idle [])).enterIdle n)

/-- R119. -/
def execAnswerToneWaitExpiry (n : Line) (s : State) : Host.Outcome State Fault Refusal :=
  .next (s.expire n .answerTone fun t _ => t.callerLost n)

/-- R119. -/
def execCalleeSilenceLimitExpiry (n : Line) (s : State) : Host.Outcome State Fault Refusal :=
  .next (s.expire n .silence fun t _ => t.callerLost n)

/-- R150. -/
def execLastPageWaitExpiry (n : Line) (s : State) : Host.Outcome State Fault Refusal :=
  .next (s.expire n .lastPage fun t _ => t.endIncoming n)

/-- R123: IDLE, or OUT_OF_SERVICE with *stop pending*. -/
def State.endGuard (s : State) (n : Line) : State :=
  let e := s.lineEntry n
  if e.stopPending then
    ((s.setChan n (Channel.bare .outOfService [])).setLineEntry n
      { e with inService := false, stopPending := false }).stage
        (.lineState n .outOfService .stop false)
  else (s.setChan n (Channel.bare .idle [])).enterIdle n

def execClearGuardExpiry (n : Line) (s : State) : Host.Outcome State Fault Refusal :=
  .next (s.expire n .clearGuard fun t _ => t.endGuard n)

/-- R129: a line in service enters IDLE at the later of READY and this expiry. -/
def State.endRestartGuard (s : State) (n : Line) : State :=
  if s.loader.ready && (s.chan n).state == .outOfService && (s.lineEntry n).inService then
    s.enterIdle n
  else s

def execRestartGuardExpiry (n : Line) (s : State) : Host.Outcome State Fault Refusal :=
  .next (s.expire n .restartGuard fun t _ => t.endRestartGuard n)

/-- R78: the next attempt time of a WAITING_RETRY destination whose expiry is still held. -/
def State.attemptTime (s : State) (job index : Nat) : Option Nat :=
  match s.findDest job index with
  | some (_, d) =>
    match d.state, d.nextAttempt with
    | .waitingRetry, some (.waits t) => some t
    | _, _ => none
  | none => none

/-- R78: the time arrives: the expiry is taken, the destination stays WAITING_RETRY with its time come, and a pass is
requested. -/
def State.attemptComes (s : State) (job index : Nat) : State :=
  match s.findDest job index with
  | some (j, d) => (s.putJob (j.setDest index { d with nextAttempt := some .come })).requestPass
  | none => s

def execNextAttemptTime (job index : Nat) (s : State) : Host.Outcome State Fault Refusal :=
  match s.attemptTime job index with
  | some t => .next (s.event (fun u => (u.advanceTo t).attemptComes job index))
  | none => .next s

end Sys2Proof.Machine
end

