-- ==== Sys2Proof/Machine/Tick.lean ====
section
/-! DEFINITION. Tick.lean: what the part does of itself when no command waits (log entry 2): a record waiting in the input
buffer is taken, a standing pass request is taken, or a millisecond goes by and the expiries that fall due join the
queue. -/

namespace Sys2Proof.Machine

/-- The command that takes a record of a kind. -/
def RecordKind.command : RecordKind → Instr
  | .ident => .ident
  | .clockSet => .clockSet
  | .tariffLoad => .tariffLoad
  | .bandLoad => .bandLoad
  | .dialPlanLoad => .dialPlanLoad
  | .dialPlanRemove => .dialPlanRemove
  | .lineSet => .lineSet
  | .settingsSet => .settingsSet
  | .accountOpen => .accountOpen
  | .accountSetBudget => .accountSetBudget
  | .accountSuspend => .accountSuspend
  | .accountResume => .accountResume
  | .accountClear => .accountClear
  | .accountClose => .accountClose
  | .accountRead => .accountRead
  | .jobOpen => .jobOpen
  | .destAdd => .destAdd
  | .pageAttach => .pageAttach
  | .jobClose => .jobClose
  | .jobCancel => .jobCancel
  | .jobRemove => .jobRemove
  | .jobQuery => .jobQuery
  | .pageOpen => .pageOpen
  | .rasterLine => .rasterLine
  | .pageClose => .pageClose
  | .pageAbort => .pageAbort
  | .flagSet => .flagSet
  | .lineStop => .lineStop
  | .lineStart => .lineStart
  | .lineReset => .lineReset
  | .printPause => .printPause
  | .printResume => .printResume
  | .pageRead => .pageRead
  | .pageRelease => .pageRelease
  | .status => .status
  | .restart => .restart
  | .unknown => .unknownKind

/-- The command that stands for the expiry of a line timer. -/
def Timer.command (t : Timer) (n : Line) : Instr :=
  match t with
  | .dialTone => .dialToneWaitExpiry n
  | .pumpDial => .pumpDialWaitExpiry n
  | .pause => .pauseWaitExpiry n
  | .answer => .answerWaitExpiry n
  | .caps => .capsWaitExpiry n
  | .termsReply => .termsReplyWaitExpiry n
  | .train => .trainWaitExpiry n
  | .tally => .tallyWaitExpiry n
  | .pageEndReply => .pageEndReplyWaitExpiry n
  | .hold => .holdTimerExpiry n
  | .keepalive => .waitKeepaliveExpiry n
  | .pageWait => .pageWaitExpiry n
  | .ringGap => .ringGapExpiry n
  | .answerTone => .answerToneWaitExpiry n
  | .silence => .calleeSilenceLimitExpiry n
  | .lastPage => .lastPageWaitExpiry n
  | .clearGuard => .clearGuardExpiry n
  | .restartGuard => .restartGuardExpiry n

/-- The record at the head of the input buffer, where it can be taken (R195). -/
def Link.takeable (l : Link) : Option LinkRecord :=
  match l.input with
  | r :: _ => if l.canTake r then some r else none
  | [] => none

/-- A command where its time has come. -/
def due (now : Nat) (c : Instr) : Option Nat → List Instr
  | some t => if t ≤ now then [c] else []
  | none => []

/-- The timers of a line with its WAIT keepalive last. DEDUCED: at the end of a hold or of a page wait no WAIT goes out
(the sequences of 7.6 and 7.8; log entry 33). -/
def Channel.timersInTurn (c : Channel) : List (Timer × Nat) :=
  c.timers.filter (fun e => e.1 != .keepalive) ++ c.timers.filter (fun e => e.1 == .keepalive)

/-- The expiries of line n that have come: its pulse timer, then its line timers. -/
def State.dueLine (s : State) (n : Line) : List Instr :=
  due s.timebase (.pulseTimerExpiry n) ((s.charge.meters.get n).map (·.nextExpiry))
    ++ (s.chan n).timersInTurn.flatMap (fun e => due s.timebase (e.1.command n) (some e.2))

/-- The destinations whose next attempt time has come with its expiry still held (R78). -/
def State.dueAttempts (s : State) : List Instr :=
  s.jobs.jobs.flatMap fun j =>
    j.dests.zipIdx.flatMap fun p => due s.timebase (.nextAttemptTime j.id p.2) (s.attemptTime j.id p.2)

/-- Every expiry that has come. -/
def State.dueCommands (s : State) : List Instr :=
  due s.timebase .configReadTimeout (s.loader.load.map (·.readTimer))
    ++ (if s.charge.clock.ms % Config.slotMs = 0 then [.slotBoundary] else [])
    ++ allLines.flatMap s.dueLine
    ++ s.dueAttempts
    ++ due s.timebase .printHoldTimerExpiry s.printer.holdTimer
    ++ due s.timebase .standbyTimerExpiry s.printer.standbyTimer
    ++ due s.timebase .outboundLinkFree (s.link.sending.map (·.doneAt))

/-- R154: a tick of the 1 ms timebase; the expiries that have come join the queue. -/
def State.tick (s : State) : State :=
  let s1 := s.moveTo (s.timebase + 1)
  s1.setPending (s1.pending ++ s1.dueCommands)

/-- R157: the clock stands at a half-hour boundary whose band has not been found: a command moved the time there, and
no SLOT_BOUNDARY followed it. -/
def State.boundaryWaits (s : State) : Bool :=
  s.charge.clock.ms % Config.slotMs == 0 && s.findBand != s.charge.band

/-- What the part does when no command waits. -/
def State.idle (s : State) : State :=
  match s.link.takeable with
  | some r => s.setPending [(recordKind r.kind).command]
  | none =>
    if s.disp.passRequest && s.loader.ready then s.setPending [.dispatchPass]
    else if s.boundaryWaits then s.setPending [.slotBoundary]
    else s.tick

end Sys2Proof.Machine
end

