-- ==== Sys2Proof/Machine/Dispatch.lean ====
section
/-! DEFINITION. Dispatch.lean: one arm per command, each a call of its meaning. -/

namespace Sys2Proof.Machine

def exec (i : Instr) (s : State) : Host.Outcome State Fault Refusal :=
  match i with
  | .powerOn st => Sys2Proof.Machine.execPowerOn st s
  | .resetPin st => Sys2Proof.Machine.execResetPin st s
  | .configByteRead b => Sys2Proof.Machine.execConfigByteRead b s
  | .configReadTimeout => Sys2Proof.Machine.execConfigReadTimeout s
  | .linkRecordArrival bs => Sys2Proof.Machine.execLinkRecordArrival bs s
  | .ident => Sys2Proof.Machine.execIdent s
  | .clockSet => Sys2Proof.Machine.execClockSet s
  | .tariffLoad => Sys2Proof.Machine.execTariffLoad s
  | .bandLoad => Sys2Proof.Machine.execBandLoad s
  | .dialPlanLoad => Sys2Proof.Machine.execDialPlanLoad s
  | .dialPlanRemove => Sys2Proof.Machine.execDialPlanRemove s
  | .lineSet => Sys2Proof.Machine.execLineSet s
  | .settingsSet => Sys2Proof.Machine.execSettingsSet s
  | .accountOpen => Sys2Proof.Machine.execAccountOpen s
  | .accountSetBudget => Sys2Proof.Machine.execAccountSetBudget s
  | .accountSuspend => Sys2Proof.Machine.execAccountSuspend s
  | .accountResume => Sys2Proof.Machine.execAccountResume s
  | .accountClear => Sys2Proof.Machine.execAccountClear s
  | .accountClose => Sys2Proof.Machine.execAccountClose s
  | .accountRead => Sys2Proof.Machine.execAccountRead s
  | .jobOpen => Sys2Proof.Machine.execJobOpen s
  | .destAdd => Sys2Proof.Machine.execDestAdd s
  | .pageAttach => Sys2Proof.Machine.execPageAttach s
  | .jobClose => Sys2Proof.Machine.execJobClose s
  | .jobCancel => Sys2Proof.Machine.execJobCancel s
  | .jobRemove => Sys2Proof.Machine.execJobRemove s
  | .jobQuery => Sys2Proof.Machine.execJobQuery s
  | .pageOpen => Sys2Proof.Machine.execPageOpen s
  | .rasterLine => Sys2Proof.Machine.execRasterLine s
  | .pageClose => Sys2Proof.Machine.execPageClose s
  | .pageAbort => Sys2Proof.Machine.execPageAbort s
  | .flagSet => Sys2Proof.Machine.execFlagSet s
  | .lineStop => Sys2Proof.Machine.execLineStop s
  | .lineStart => Sys2Proof.Machine.execLineStart s
  | .lineReset => Sys2Proof.Machine.execLineReset s
  | .printPause => Sys2Proof.Machine.execPrintPause s
  | .printResume => Sys2Proof.Machine.execPrintResume s
  | .pageRead => Sys2Proof.Machine.execPageRead s
  | .pageRelease => Sys2Proof.Machine.execPageRelease s
  | .status => Sys2Proof.Machine.execStatus s
  | .restart => Sys2Proof.Machine.execRestart s
  | .unknownKind => Sys2Proof.Machine.execUnknownKind s
  | .outputHoldRelease => Sys2Proof.Machine.execOutputHoldRelease s
  | .outboundLinkFree => Sys2Proof.Machine.execOutboundLinkFree s
  | .scannerPageStart w r => Sys2Proof.Machine.execScannerPageStart w r s
  | .scannerPixelLine ps => Sys2Proof.Machine.execScannerPixelLine ps s
  | .scannerPageEnd => Sys2Proof.Machine.execScannerPageEnd s
  | .scannerJam => Sys2Proof.Machine.execScannerJam s
  | .ring n => Sys2Proof.Machine.execRing n s
  | .tone n => Sys2Proof.Machine.execTone n s
  | .dialDone n => Sys2Proof.Machine.execDialDone n s
  | .busyTone n => Sys2Proof.Machine.execBusyTone n s
  | .voice n => Sys2Proof.Machine.execVoice n s
  | .answerTone n => Sys2Proof.Machine.execAnswerTone n s
  | .loopLost n => Sys2Proof.Machine.execLoopLost n s
  | .carrierLost n => Sys2Proof.Machine.execCarrierLost n s
  | .trained n r => Sys2Proof.Machine.execTrained n r s
  | .caps n g c => Sys2Proof.Machine.execCaps n g c s
  | .terms n g c => Sys2Proof.Machine.execTerms n g c s
  | .accept n g c => Sys2Proof.Machine.execAccept n g c s
  | .decline n g c => Sys2Proof.Machine.execDecline n g c s
  | .retrain n g c => Sys2Proof.Machine.execRetrain n g c s
  | .pageHead n g c => Sys2Proof.Machine.execPageHead n g c s
  | .block n g c => Sys2Proof.Machine.execBlock n g c s
  | .check n g c => Sys2Proof.Machine.execCheck n g c s
  | .tally n g c => Sys2Proof.Machine.execTally n g c s
  | .resume n g c => Sys2Proof.Machine.execResume n g c s
  | .wait n g c => Sys2Proof.Machine.execWait n g c s
  | .more n g c => Sys2Proof.Machine.execMore n g c s
  | .last n g c => Sys2Proof.Machine.execLast n g c s
  | .taken n g c => Sys2Proof.Machine.execTaken n g c s
  | .reject n g c => Sys2Proof.Machine.execReject n g c s
  | .bye n g c => Sys2Proof.Machine.execBye n g c s
  | .dialToneWaitExpiry n => Sys2Proof.Machine.execDialToneWaitExpiry n s
  | .pumpDialWaitExpiry n => Sys2Proof.Machine.execPumpDialWaitExpiry n s
  | .pauseWaitExpiry n => Sys2Proof.Machine.execPauseWaitExpiry n s
  | .answerWaitExpiry n => Sys2Proof.Machine.execAnswerWaitExpiry n s
  | .capsWaitExpiry n => Sys2Proof.Machine.execCapsWaitExpiry n s
  | .termsReplyWaitExpiry n => Sys2Proof.Machine.execTermsReplyWaitExpiry n s
  | .trainWaitExpiry n => Sys2Proof.Machine.execTrainWaitExpiry n s
  | .tallyWaitExpiry n => Sys2Proof.Machine.execTallyWaitExpiry n s
  | .holdTimerExpiry n => Sys2Proof.Machine.execHoldTimerExpiry n s
  | .waitKeepaliveExpiry n => Sys2Proof.Machine.execWaitKeepaliveExpiry n s
  | .pageWaitExpiry n => Sys2Proof.Machine.execPageWaitExpiry n s
  | .pageEndReplyWaitExpiry n => Sys2Proof.Machine.execPageEndReplyWaitExpiry n s
  | .ringGapExpiry n => Sys2Proof.Machine.execRingGapExpiry n s
  | .answerToneWaitExpiry n => Sys2Proof.Machine.execAnswerToneWaitExpiry n s
  | .calleeSilenceLimitExpiry n => Sys2Proof.Machine.execCalleeSilenceLimitExpiry n s
  | .lastPageWaitExpiry n => Sys2Proof.Machine.execLastPageWaitExpiry n s
  | .clearGuardExpiry n => Sys2Proof.Machine.execClearGuardExpiry n s
  | .restartGuardExpiry n => Sys2Proof.Machine.execRestartGuardExpiry n s
  | .nextAttemptTime job dest => Sys2Proof.Machine.execNextAttemptTime job dest s
  | .dispatchPass => Sys2Proof.Machine.execDispatchPass s
  | .slotBoundary => Sys2Proof.Machine.execSlotBoundary s
  | .pulseTimerExpiry n => Sys2Proof.Machine.execPulseTimerExpiry n s
  | .readyRises => Sys2Proof.Machine.execReadyRises s
  | .readyFalls => Sys2Proof.Machine.execReadyFalls s
  | .paperChange o => Sys2Proof.Machine.execPaperChange o s
  | .printerJam => Sys2Proof.Machine.execPrinterJam s
  | .lineAccepted => Sys2Proof.Machine.execLineAccepted s
  | .printHoldTimerExpiry => Sys2Proof.Machine.execPrintHoldTimerExpiry s
  | .standbyTimerExpiry => Sys2Proof.Machine.execStandbyTimerExpiry s
  | .outputHoldAssert => Sys2Proof.Machine.execOutputHoldAssert s

end Sys2Proof.Machine
end

