-- ==== Sys2Proof/Safety.lean ====
section
/-! DEFINITION. Safety.lean: what counts as a sound state of the part, and the terms in which the statements about the
commands are made. -/

namespace Sys2Proof.Machine

/-! ## Sound states -/

/-- The store's memory stands in its canonical form, the clock shows a day and a time of that day (R154), and neither
the LFSR nor the seed it is loaded with is 0 (R77). -/
structure Sound (s : State) : Prop where
  memory : Memory.wf s.store.mem = true
  day : s.charge.clock.day ≤ 6
  time : s.charge.clock.ms < 86400000
  lfsr : s.disp.lfsr ≠ 0
  seed : s.settings.seed ≠ 0

/-- R1, R10, R13: every block of the store is in exactly one place (the free list, a chain or a pending burst); page ids
are below 128 and no two records in use share one; a page's pending burst has 32 positions. -/
structure StoreWhole (s : State) : Prop where
  blocks : List.Perm (s.store.freeList ++ s.store.pages.flatMap Page.blocks)
    (List.range (StoreSize.blocks s.straps.storeSize))
  ids : List.Pairwise (fun p q => p.id < q.id) s.store.pages
  small : ∀ p ∈ s.store.pages, p.id < 128
  bursts : ∀ p ∈ s.store.pages, p.pendingBurst.length = 32

/-- R193 to R195, R204, R205: no queue of the link holds more than its places, and the two counts stay in their range. -/
structure LinkBounded (s : State) : Prop where
  input : s.link.placesTaken ≤ 4
  replies : s.link.replies.length ≤ 16
  notices : s.link.notices.length ≤ 64
  blocks : s.link.blocks.length ≤ 32
  errors : s.link.errors ≤ 65535
  intake : s.link.intake ≤ 65535

/-! ## Terms of the statements

A command's effect is stated as `exec c s = .next (u.finish s.disp.flags)`: `u` is the state as the command's own rules
leave it, and `State.finish` is what every event ends with; what it does has statements of its own. -/

/-- The oldest record of the input buffer is `r`, of kind `k`, and can be taken (R195). -/
structure AtHead (s : State) (k : RecordKind) (r : LinkRecord) : Prop where
  head : s.link.input.head? = some r
  kind : recordKind r.kind = k
  room : s.link.canTake r = true

/-- The part is ready and takes the record `r` of kind `k`. -/
structure Takes (s : State) (k : RecordKind) (r : LinkRecord) : Prop extends AtHead s k r where
  ready : s.loader.ready = true

/-- R195, R196: the link after the record `r` was taken and answered with `res`. -/
def Link.answered (l : Link) (r : LinkRecord) (res : ReplyResult) : Link :=
  { l with
    input := l.input.tail
    intake := (l.intake + 1) % 65536
    replies := l.replies ++ [⟨r.kind, r.tag, (l.intake + 1) % 65536, res⟩] }

/-- The link with the record `r` taken and answered OK with `data`. -/
def State.answeredOk (s : State) (r : LinkRecord) (data : List Byte) : State :=
  { s with link := s.link.answered r (.ok data) }

/-- The record `r` taken and refused with `c`, nothing else changed (R196). -/
def State.refusedWith (s : State) (r : LinkRecord) (c : RefusalCode) : State :=
  { s with link := s.link.answered r (.refused c) }

end Sys2Proof.Machine
end

