-- ==== Sys2Proof/Certificates/Slice0/Obligations.lean ====
section
/-! DEFINITION. Obligations.lean: the statements for the provers. A command's effect is stated as
`exec c s = .next (u.finish s.disp.flags)`: `u` is the state as the command's own rules leave it, everything that is not
named in it as it was, and `State.finish` is what every event ends with (ReleaseIsEvaluated, NoticesJoinTheQueue,
ArbiterOrder and ScannerTransfers say what that is). -/

open Sys2Proof Sys2Proof.Machine

/-! ## The machine as a whole -/

/-- A step runs the command at the front of the queue on the state with the queue's rest. -/
def Obligations.StepRunsTheFrontCommand : Prop :=
  ∀ (s : State) (c : Instr) (rest : List Instr), s.pending = c :: rest →
    step s = exec c { s with pending := rest }

/-- R154, and the model's own reading of an empty queue (log entry 2): with no command waiting, the record that can be
taken is asked for; else a standing pass request of a ready part is; else the slot boundary at which the clock stands is,
where the band of that moment is not in force yet (R157); else a millisecond goes by, the clock going from
86,399,999 to 0 and the next day, from day 6 to day 0, and the expiries that have come join the queue.
R78, R110, R157, R162, R183, R189, R202, R214: the expiry of a timer is among those that have come where the timer runs
and its time is there: each timer of a line (its own command), a meter's pulse timer, the waiting attempt of a
WAITING_RETRY destination, the read timer of a load, the print hold and the standby timers, the end of a sending; and at
every half hour the slot boundary. Nothing else is. A line's WAIT keepalive comes after its hold timer and its page wait,
as the worked sequences have it (log entry 33). -/
def Obligations.IdleStep : Prop :=
  (∀ s : State, s.pending = [] →
    (∀ k r, AtHead s k r → step s = .next { s with pending := [k.command] })
    ∧ ((∀ k r, ¬ AtHead s k r) →
        (s.disp.passRequest = true ∧ s.loader.ready = true →
          step s = .next { s with pending := [.dispatchPass] })
        ∧ (¬ (s.disp.passRequest = true ∧ s.loader.ready = true) →
            s.charge.clock.ms % 1800000 = 0 → s.findBand ≠ s.charge.band →
            step s = .next { s with pending := [.slotBoundary] })
        ∧ (¬ (s.disp.passRequest = true ∧ s.loader.ready = true) →
            ¬ (s.charge.clock.ms % 1800000 = 0 ∧ s.findBand ≠ s.charge.band) →
            s.charge.clock.day ≤ 6 → s.charge.clock.ms ≤ 86399999 →
            let clock : Clock :=
              if s.charge.clock.ms = 86399999 then
                ⟨if s.charge.clock.day = 6 then 0 else s.charge.clock.day + 1, 0⟩
              else ⟨s.charge.clock.day, s.charge.clock.ms + 1⟩
            let t : State :=
              { s with timebase := s.timebase + 1, charge := { s.charge with clock := clock } }
            step s = .next { t with pending := t.dueCommands })))
  ∧ (∀ s : State,
    let own (t : Timer) (n : Line) : Instr :=
      match t with
      | .dialTone => .dialToneWaitExpiry n
      | .pumpDial => .pumpDialWaitExpiry n
      | .pause => .pauseWaitExpiry n
      | .answer => .answerWaitExpiry n
      | .caps => .capsWaitExpiry n
      | .termsReply => .termsReplyWaitExpiry n
      | .train => .trainWaitExpiry n
      | .tally => .tallyWaitExpiry n
      | .pageEndReply => .pageEndReplyWaitExpiry n
      | .hold => .holdTimerExpiry n
      | .keepalive => .waitKeepaliveExpiry n
      | .pageWait => .pageWaitExpiry n
      | .ringGap => .ringGapExpiry n
      | .answerTone => .answerToneWaitExpiry n
      | .silence => .calleeSilenceLimitExpiry n
      | .lastPage => .lastPageWaitExpiry n
      | .clearGuard => .clearGuardExpiry n
      | .restartGuard => .restartGuardExpiry n
    let come (c : Instr) : Prop := c ∈ s.dueCommands
    let now (x : Option Nat) : Prop := ∃ t, x = some t ∧ t ≤ s.timebase
    (∀ n t, come (own t n) ↔ ∃ d, (t, d) ∈ (s.chan n).timers ∧ d ≤ s.timebase)
    ∧ (∀ n, come (.pulseTimerExpiry n) ↔ now ((s.charge.meters.get n).map (·.nextExpiry)))
    ∧ (∀ job i, come (.nextAttemptTime job i) ↔ ∃ j d t, s.findJob job = some j ∧ j.dests[i]? = some d
        ∧ d.state = .waitingRetry ∧ d.nextAttempt = some (.waits t) ∧ t ≤ s.timebase)
    ∧ (come .configReadTimeout ↔ now (s.loader.load.map (·.readTimer)))
    ∧ (come .slotBoundary ↔ s.charge.clock.ms % 1800000 = 0)
    ∧ (come .printHoldTimerExpiry ↔ now s.printer.holdTimer)
    ∧ (come .standbyTimerExpiry ↔ now s.printer.standbyTimer)
    ∧ (come .outboundLinkFree ↔ now (s.link.sending.map (·.doneAt)))
    ∧ (∀ c, come c →
        (∃ n t, c = own t n) ∨ (∃ n, c = .pulseTimerExpiry n) ∨ (∃ job i, c = .nextAttemptTime job i)
        ∨ c = .configReadTimeout ∨ c = .slotBoundary ∨ c = .printHoldTimerExpiry ∨ c = .standbyTimerExpiry
        ∨ c = .outboundLinkFree)
    ∧ (∀ n t, t ≠ .keepalive → come (own t n) → come (.waitKeepaliveExpiry n) →
        [own t n, .waitKeepaliveExpiry n].Sublist s.dueCommands))

/-- The reset state meets the three invariants. -/
def Obligations.ResetIsSound : Prop :=
  Sound State.reset ∧ StoreWhole State.reset ∧ LinkBounded State.reset

/-- Every step keeps the memory in its canonical form, the clock at a day and a time of that day (R154), and the LFSR
and its seed other than 0 (R77). -/
def Obligations.StepKeepsSound : Prop :=
  ∀ s t : State, Sound s → step s = .next t → Sound t

/-- R1: "At every moment each block is in exactly one of three places": every step keeps it. -/
def Obligations.StepKeepsStoreWhole : Prop :=
  ∀ s t : State, StoreWhole s → step s = .next t → StoreWhole t

/-- R193 to R195, R204, R205: every step keeps every queue of the link within its places. -/
def Obligations.StepKeepsLinkBounded : Prop :=
  ∀ s t : State, LinkBounded s → step s = .next t → LinkBounded t

/-! ## The end of every event (R48, R70, R71, R203, R205) -/

/-- R203: with the link free and the output hold released, the head of the first queue that is not empty is sent:
replies, tickets, notices, block data; a ticket gives its slot back and requests a pass (R175), and a notice carries the
lost flag and clears it (R205). With the link busy or the hold asserted, or with nothing queued, nothing is chosen. That
the sending ends at a whole millisecond, the time of R202 rounded up, is the model's choice (log entry 12).
R204, R207 to R209: the bodies of the four records: a REPLY (0x80, its record's tag) has the kind of the record answered,
the intake number, and the result, 0 with the data or the refusal's number 1 to 9; a TICKET (0x82, tag 0) the fields of
R208, the low 32 and 48 bits of pulses and total (log entry 29); a NOTICE (0x81, tag 0) its kind, the lost mark, the
intake number and its content (NoticesJoinTheQueue); a BLOCK DATA (0x83, the PAGE READ's tag) the page, the position, the
used length and the used bytes. Framing says what `recordBytes` puts around a body. -/
def Obligations.ArbiterOrder : Prop :=
  (∀ s : State,
    let sent (u : State) (bytes : List Byte) : State :=
      { u with
        link := { u.link with sending := some ⟨bytes, s.timebase
          + (bytes.length * 8 + LinkRate.mbit s.straps.linkRate * 1000 - 1)
            / (LinkRate.mbit s.straps.linkRate * 1000)⟩ }
        outputs := s.outputs ++ [.record bytes] }
    (s.link.sending ≠ none ∨ s.link.outputHold = true → s.arbitrate = s)
    ∧ (s.link.sending = none → s.link.outputHold = false →
        (∀ r rs, s.link.replies = r :: rs →
          s.arbitrate = sent { s with link := { s.link with replies := rs } } (replyBytes r))
        ∧ (s.link.replies = [] →
          (∀ t ts, s.charge.tickets = t :: ts →
            s.arbitrate = sent { s with
                charge := { s.charge with tickets := ts, slots := s.charge.slots - 1 }
                disp := { s.disp with passRequest := true } } (ticketBytes t))
          ∧ (s.charge.tickets = [] →
            (∀ n ns, s.link.notices = n :: ns →
              s.arbitrate = sent { s with link := { s.link with notices := ns, lost := false } }
                (noticeBytes s.link.lost n))
            ∧ (s.link.notices = [] →
              (∀ b bs, s.link.blocks = b :: bs →
                s.arbitrate = sent { s with link := { s.link with blocks := bs } } (blockItemBytes b))
              ∧ (s.link.blocks = [] → s.arbitrate = s))))))
  ∧ (∀ r : Reply,
    let result : List Byte :=
      match r.result with
      | .ok data => 0#8 :: data
      | .refused c => num1 (1 + List.idxOf c [.badFormat, .unknownKind, .notReady, .noSuch, .duplicate, .full,
          .inUse, .badValue, .state])
    replyBytes r = recordBytes 0x80 r.tag.toNat ([r.kind] ++ num2 r.intake ++ result))
  ∧ (∀ t : Ticket,
    let outcome := 1 + List.idxOf t.outcome [.noTone, .busy, .noAnswer, .notFax, .linePoor, .remoteGone,
      .heldTooLong, .declined, .pageRejected, .partSent, .noRoute, .barred, .accountHeld, .cancelled, .lineReset,
      .done, .restart]
    ticketBytes t = recordBytes 0x82 0 (num1 t.account.val ++ num2 t.job ++ num1 t.dest ++ num1 t.line.val
      ++ num1 t.cls.val ++ num1 t.band.val ++ num1 t.answerDay ++ num4 t.answerMs
      ++ num4 (min 4294967295 t.duration) ++ num4 t.pulses ++ num6 t.total ++ num1 outcome
      ++ num1 t.digits.length ++ t.digits))
  ∧ (∀ (lost : Bool) (n : NoticeEntry), noticeBytes lost n = recordBytes 0x81 0
      (num1 n.notice.kind ++ [if lost then 1#8 else 0#8] ++ num2 n.intake ++ n.notice.content))
  ∧ (∀ b : BlockItem, blockItemBytes b = recordBytes 0x83 b.tag.toNat
      (num1 b.page ++ num2 b.pos ++ num2 b.used ++ b.bytes))

/-- R70, R71: where the condition flags at the end of an event differ from those it found, the release of every job
that is OPEN or CLOSED with no cancel pending is the test of its mode over the flags; every other job keeps its own; a
job whose gate notice is on has a JOB_GATE notice where its release changed; a change from no to yes requests a pass.
Where the flags are as the event found them, nothing is evaluated.
R48, R95, R203, R205: every event ends so, once and in this order, which is the model's choice: the transfer that stayed
with the scanner is taken where stall is down (log entry 6), the releases are evaluated against the flags as they then
stand, `before` being those the event found, the notices of the event join their queue, and the arbiter chooses last,
after the replies, tickets and notices of the event are queued (log entry 14). That the notices of the transfer taken join
with those of what ended the stall is log entry 35. -/
def Obligations.ReleaseIsEvaluated : Prop :=
  ∀ (s : State) (before : BitVec 16),
    s.finish before = ((s.takePresented.evaluateReleases before).flushNotices).arbitrate
    ∧ (s.disp.flags = before → s.evaluateReleases before = s)
    ∧ (s.disp.flags ≠ before →
        let live (j : Job) : Bool :=
          (j.state == .opened || j.state == .closed) && j.cancelling == none
        let test (j : Job) : Bool :=
          match j.mode with
          | .always => true
          | .held => false
          | .whenAll => decide (∀ i : Fin 16, j.mask.getLsbD i = true → s.disp.flags.getLsbD i = true)
          | .whenNotAll => decide (∃ i : Fin 16, j.mask.getLsbD i = true ∧ s.disp.flags.getLsbD i = false)
        let next (j : Job) : Job := if live j then { j with released := test j } else j
        s.evaluateReleases before =
          { s with
            jobs := { s.jobs with jobs := s.jobs.jobs.map next }
            staged := s.staged ++ (s.jobs.jobs.filter
                (fun j => j.gateNotice && (next j).released != j.released)).map
                  (fun j => .jobGate j.id (next j).released s.disp.flags)
            disp := if s.jobs.jobs.any (fun j => !j.released && (next j).released) then
                { s.disp with passRequest := true } else s.disp })

/-- R205: the notices of an event join the queue in ascending order of kind, then of the id they carry first, those of
STORE_LOW and STORE_OK with the free count as it stands (R8), and equals as they came; the free places go to the first
of them, and where one finds no place the lost flag is set. That STORE_LOW and STORE_OK share a place among the kinds, so
that two changes of the flag in one event are reported in their order, is log entry 14.
R209: the kinds are numbered 1 to 16 in the order of the notice table; the id a notice carries first is that of its page,
job, line or account; the content holds the fields its rule names, a value of a named set by its place in the list that
first names it, a field that may be absent behind its presence byte (log entries 21, 23, 24 and 26). -/
def Obligations.NoticesJoinTheQueue : Prop :=
  (∀ s : State, ∃ ns : List Notice,
    let staged := s.staged.map (Notice.withFree s.store.freeList.length)
    let place (n : Notice) : Nat := if n.kind = 2 then 1 else n.kind
    ns.Perm staged
    ∧ ns.Pairwise (fun a b => place a < place b ∨ (place a = place b ∧ a.key ≤ b.key))
    ∧ (∀ k id, ns.filter (fun n => place n == k && n.key == id)
        = staged.filter (fun n => place n == k && n.key == id))
    ∧ s.flushNotices =
      { s with
        staged := []
        link := { s.link with
          notices := s.link.notices
            ++ (ns.take (64 - s.link.notices.length)).map (fun n => ⟨s.link.intake, n⟩)
          lost := s.link.lost || decide (64 - s.link.notices.length < ns.length) } })
  ∧ (∀ n : Notice,
    let absent : List Byte := [0#8]
    let flag (b : Bool) : List Byte := [if b then 1#8 else 0#8]
    let res (r : Resolution) : List Byte := num1 (List.idxOf r [.coarse, .fine])
    let source (x : PageSource) : List Byte := num1 (List.idxOf x [.scan, .link, .received])
    let page (x : PageState) : List Byte :=
      num1 (List.idxOf x [.coding, .complete, .spoiled, .receiving, .incomplete])
    let refusal (c : RefusalCode) : List Byte := num1 (1 + List.idxOf c [.badFormat, .unknownKind, .notReady, .noSuch,
      .duplicate, .full, .inUse, .badValue, .state])
    let chan (x : ChanState) : List Byte := num1 (List.idxOf x [.outOfService, .idle, .ringIn, .answering, .seize, .dial,
      .awaitAnswer, .greet, .train, .send, .receive, .clear])
    let tag (x : List Byte) : List Byte := num1 x.length ++ x
    let laid : Nat × Nat × List Byte :=
      match n with
      | .storeLow f => (1, 0, num2 f)
      | .storeOk f => (2, 0, num2 f)
      | .scanPage p w r => (3, p, num1 p ++ num2 w ++ res r)
      | .scanRefused c => (4, 0, refusal c)
      | .pageComplete p x l b a f => (5, p, num1 p ++ source x ++ num2 l ++ num4 b ++ num2 a ++ flag f)
      | .pageSpoiled p x c l j t => (6, p, num1 p ++ source x ++ num1 (List.idxOf c [.jam, .aborted, .storeFull])
          ++ num2 l ++ num1 j ++ (match t with | none => absent | some b => [1#8, b]))
      | .lineRefused t p c => (7, 0, [t, p] ++ num1 (List.idxOf c [.notReady, .badFormat, .notOpen, .notLink]))
      | .jobGate j r f => (8, j, num2 j ++ flag r ++ num2 f.toNat)
      | .jobDone j x d f c t => (9, j, num2 j ++ num1 (List.idxOf x [.opened, .closed, .done, .cancelled])
          ++ num1 d ++ num1 f ++ num1 c ++ num4 t)
      | .lineState m x c e => (10, m.val, num1 m.val ++ chan x ++ num1 (List.idxOf c [.stop, .start, .reset]) ++ flag e)
      | .accountLimit a x b c => (11, a, num1 a ++ num4 x ++ num4 b ++ num1 c)
      | .pageReceived p m x w r l b e t q f => (12, p, num1 p ++ num1 m.val ++ page x ++ num2 w ++ res r ++ num2 l
          ++ num4 b ++ num2 e ++ tag t ++ flag q ++ flag f)
      | .pagePrinted p m t x l c u r f => (13, p, num1 p ++ num1 m.val ++ tag t ++ page x ++ num2 l ++ num2 c ++ flag u
          ++ num1 r ++ flag f)
      | .printerState c p r => (14, 0, num1 (List.idxOf c [.jam, .hold, .paper, .paperOut, .paperPresent])
          ++ (match p with | none => absent | some x => 1#8 :: num1 x)
          ++ (match r with | none => absent | some x => 1#8 :: num1 x))
      | .settingsLoaded x c r p a k => (15, 0, num1 (List.idxOf x [.image, .defaults])
          ++ (match c with
              | none => absent
              | some y => 1#8 :: num1 (List.idxOf y [.notFitted, .absent, .noAnswer, .badSum]))
          ++ flag r ++ num1 p ++ num1 a ++ num2 k)
      | .ready => (16, 0, [])
    n.kind = laid.1 ∧ n.key = laid.2.1 ∧ n.content = laid.2.2)
/-! ## Power-on, the RESET pin, the settings load and RESTART (11) -/

/-- R218 with R20, R31, R58, R77, R86, R91 to R93, R96 to R98, R129, R176, R190, R200 and R206: power-on and the RESET
pin latch the straps and leave every block in its reset state. With a configuration memory the load then asks for its
first byte (R214, R215); without one it has ended with the built-in values, cause NOT_FITTED, and the part is ready.
That the timebase begins again at 0 and the waiting commands stay is log entry 19; that no pass request stands after
the reset is log entry 7. -/
def Obligations.PowerOnAndResetPin : Prop :=
  ∀ (st : Straps) (s : State), ∃ u : State,
    exec (.powerOn st) s = .next (u.finish s.disp.flags)
    ∧ exec (.resetPin st) s = .next (u.finish s.disp.flags)
    ∧ u.straps = st ∧ u.timebase = 0 ∧ u.pending = s.pending
    ∧ u.outputs = s.outputs ++ allLines.flatMap (fun n => [.onHook n, .pump n .reset])
        ++ (if st.configPresent then [.configRead 0] else [])
    ∧ u.store.freeList = List.range (if st.storeSize = .kib512 then 2048 else 4096)
    ∧ u.store.pages = [] ∧ u.store.storeLow = false ∧ u.store.scanWaiting = false
    ∧ u.store.mem = s.store.mem
    ∧ u.scanCtx = none ∧ u.linkCtx = none ∧ u.scanner.port = .idle
    ∧ u.jobs = ⟨[], 0⟩
    ∧ u.settings = ⟨128, 256, 512, 192, 2, 4, 3, 27937#16, 1, List.replicate 20 32#8, 10, 0, .print, 4400, 300⟩
    ∧ u.disp.plan = [] ∧ u.disp.lfsr = 27937#16
    ∧ (∀ n, u.lineEntry n = ⟨.both, 2, .r14400, true, false⟩)
    ∧ u.charge.clock = ⟨0, 0⟩ ∧ u.charge.band = 0 ∧ u.charge.tickets = [] ∧ u.charge.slots = 0
    ∧ (∀ n, u.charge.meters.get n = none)
    ∧ (∀ a, u.charge.accounts.get a = ⟨.free, 0, 0, 0, false⟩)
    ∧ (∀ k, u.charge.tariff.get k = ⟨0, 0, 36000⟩) ∧ (∀ k, u.charge.schedule.get k = 0)
    ∧ u.printer.queue = [] ∧ u.printer.paused = false ∧ u.printer.handed = none
    ∧ u.printer.decoder = none ∧ u.printer.holdTimer = none
    ∧ u.link.input = [] ∧ u.link.replies = [] ∧ u.link.blocks = [] ∧ u.link.lost = false
    ∧ u.link.errors = 0 ∧ u.link.intake = 0 ∧ u.link.sending = none
    ∧ (∀ n, (u.chan n).call = none ∧ (u.chan n).rings = none ∧ (u.chan n).recoder = none
        ∧ (u.chan n).timers = [])
    ∧ (st.configPresent = true →
        u.loader = ⟨false, some ⟨[], 0, 100, false⟩, none⟩
        ∧ (∀ n, (u.chan n).state = .outOfService)
        ∧ u.disp.flags = 1#16 ∧ u.disp.passRequest = false ∧ u.link.notices = []
        ∧ u.staged = [] ∧ u.printer.state = .idle ∧ u.printer.paperOut = false ∧ u.printer.standbyTimer = none)
    ∧ (st.configPresent = false →
        u.loader = ⟨true, none, some .defaults⟩
        ∧ (∀ n, (u.chan n).state = .idle)
        ∧ u.disp.flags = (if s.printer.paperPin then 0x0F21#16 else 0x0F01#16)
        ∧ u.disp.passRequest = true
        ∧ u.link.notices =
            [⟨0, .settingsLoaded .defaults (some .notFitted) false 0 0 0⟩, ⟨0, .ready⟩]
        ∧ u.staged = (if s.printer.paperPin then [.printerState .paperOut none none] else [])
        ∧ u.printer.state = .idle ∧ u.printer.paperOut = s.printer.paperPin
        ∧ u.printer.standbyTimer = some 300000)

/-- R212, R214: what a byte of the configuration memory does to the load. The image opens with the two bytes of the
presence mark, 4 and 22, and the two bytes of the length S of the sections; the sum of its bytes follows the sections. A
byte that leaves the read going is added to the sum, and the next byte is asked for, with 100 ms to deliver it; one
that breaks the mark, or a length that does not fit 65,536 bytes, ends the load with cause ABSENT; the last byte ends it
with the image, or with cause BAD_SUM. With no load running a byte has no effect.
R214: a byte not delivered in time ends the load with cause NO_ANSWER.
That sections which do not fit end the load at their last byte is log entry 17; that the command of the timer's end
moves the time on to it, and has no effect with no load running, is log entry 1.
R212, R209: `parseImage` reads the sections in the layout of R212 and in no other: the four line entries, the tariff
list, the 144 slots, the dial plan list, the fifteen settings in the order of their numbers and the account list, one
after another and nothing behind them; a list has its count in one byte, a number of two or four bytes its high byte
first, and a text its count of characters. -/
def Obligations.LoadReads : Prop :=
  (∀ (s : State) (b : Byte),
    (s.loader.load = none → exec (.configByteRead b) s = .next s)
    ∧ (∀ l : Load, s.loader.load = some l →
        let bytes := l.bytes ++ [b]
        let n := bytes.length
        let size := (bytes.getD 2 0).toNat * 256 + (bytes.getD 3 0).toNat
        let sections := (bytes.drop 4).take size
        let mark := bytes.getD 0 0 = 4#8 ∧ (n = 1 ∨ bytes.getD 1 0 = 22#8)
        let goesOn (sum : BitVec 16) : State :=
          { s with
            loader := { s.loader with load := some ⟨bytes, sum, s.timebase + 100, l.restart⟩ }
            outputs := s.outputs ++ [.configRead n] }
        let endsWith (r : LoadResult) : Prop :=
          exec (.configByteRead b) s = .next ((s.endLoad l.restart r).finish s.disp.flags)
        (¬ mark → endsWith (.failure .absent))
        ∧ (mark → n < 4 →
            exec (.configByteRead b) s =
              .next ((goesOn (l.sum + BitVec.ofNat 16 b.toNat)).finish s.disp.flags))
        ∧ (mark → n = 4 → 65530 < size → endsWith (.failure .absent))
        ∧ (mark → 4 ≤ n → n < 4 + size → size ≤ 65530 →
            exec (.configByteRead b) s =
              .next ((goesOn (l.sum + BitVec.ofNat 16 b.toNat)).finish s.disp.flags))
        ∧ (mark → 4 ≤ n → n = 4 + size → size ≤ 65530 →
            (parseImage sections = none → endsWith (.failure .absent))
            ∧ (parseImage sections ≠ none →
                exec (.configByteRead b) s =
                  .next ((goesOn (l.sum + BitVec.ofNat 16 b.toNat)).finish s.disp.flags)))
        ∧ (mark → n = 4 + size + 1 → size ≤ 65530 → parseImage sections ≠ none →
            exec (.configByteRead b) s = .next ((goesOn l.sum).finish s.disp.flags))
        ∧ (mark → n = 4 + size + 2 → size ≤ 65530 → ∀ i, parseImage sections = some i →
            endsWith (if (bytes.getD (4 + size) 0).toNat * 256 + b.toNat = l.sum.toNat
              then .image i else .failure .badSum))))
  ∧ (∀ s : State,
    (s.loader.load = none → exec .configReadTimeout s = .next s)
    ∧ (∀ l : Load, s.loader.load = some l →
        exec .configReadTimeout s = .next
          (((s.advanceTo l.readTimer).endLoad l.restart (.failure .noAnswer)).finish s.disp.flags)))
  ∧ (∀ (b : List Byte) (i : Image), parseImage b = some i ↔
    ∃ (reserve low high floor coarse fine cap seed spare hold band routing limit delay : Nat) (tag : List Byte),
      let settings : List SettingValue := [.num reserve, .num low, .num high, .num floor, .num coarse, .num fine,
        .num cap, .num seed, .num spare, .tag tag, .num hold, .num band, .num routing, .num limit, .num delay]
      (∀ n ∈ [coarse, fine, cap, spare, hold, band, routing, tag.length, i.tariff.length, i.plan.length,
        i.accounts.length], n < 256)
      ∧ (∀ n ∈ [reserve, low, high, floor, seed, limit, delay], n < 65536)
      ∧ i.settings = settings
      ∧ i.lines.length = 4 ∧ (∀ x ∈ i.lines, x.1 < 256 ∧ x.2.1 < 256 ∧ x.2.2.1 < 65536 ∧ x.2.2.2 < 256)
      ∧ (∀ x ∈ i.tariff, x.cls < 256 ∧ x.band < 256 ∧ x.connect < 65536 ∧ x.pulse < 65536 ∧ x.period < 65536)
      ∧ i.bands.length = 144 ∧ (∀ x ∈ i.bands, x < 256)
      ∧ (∀ x ∈ i.plan, x.pfx.length < 256 ∧ x.cls < 256 ∧ x.strip < 256 ∧ x.prepend.length < 256 ∧ x.mask < 256
          ∧ x.barred < 256)
      ∧ (∀ x ∈ i.accounts, x.1 < 256 ∧ x.2.1 < 256 ∧ x.2.2 < 4294967296)
      ∧ b = i.lines.flatMap (fun x => num1 x.1 ++ num1 x.2.1 ++ num2 x.2.2.1 ++ num1 x.2.2.2)
        ++ num1 i.tariff.length
        ++ i.tariff.flatMap (fun x =>
          num1 x.cls ++ num1 x.band ++ num2 x.connect ++ num2 x.pulse ++ num2 x.period)
        ++ i.bands.flatMap num1
        ++ num1 i.plan.length
        ++ i.plan.flatMap (fun x => num1 x.pfx.length ++ x.pfx ++ num1 x.cls ++ num1 x.strip
          ++ num1 x.prepend.length ++ x.prepend ++ num1 x.mask ++ num1 x.barred)
        ++ (num2 reserve ++ num2 low ++ num2 high ++ num2 floor ++ num1 coarse ++ num1 fine ++ num1 cap
          ++ num2 seed ++ num1 spare ++ num1 tag.length ++ tag ++ num1 hold ++ num1 band ++ num1 routing
          ++ num2 limit ++ num2 delay)
        ++ num1 i.accounts.length
        ++ i.accounts.flatMap (fun x => num1 x.1 ++ num1 x.2.1 ++ num4 x.2.2))

/-- R214, R215: the end of a load without a valid image: every table and setting takes its built-in value, the LFSR the
seed; the part is ready, from DEFAULTS; SETTINGS_LOADED with the cause and READY are the first notices to join the
queue; each line in service whose guard does not run enters IDLE with its LINEn_FREE flag set (R129), and every other
line stays as it is. A load begins with
STORE_LOW clear (R20, R21). What it does not read stays: the accounts, the clock, the tickets, the jobs.
R214, R215, with R91, R93, R156 and R165: the end of a load with a valid image: each line entry within the ranges of
LINE SET stands in the line table, each slot of the schedule names the image's band, the plan holds the image's entries
where all of them pass the test of R88 and no prefix is named twice, and for each prefix the last of the image that
passes where the image has at most 128; each setting has the image's value, or its built-in
one where that is out of range, the four of the store pressure together and the standby delay clamped; each tariff entry
is the last of the image for it within its ranges (log entry 18), else the built-in one; at power-on and the RESET pin the accounts the
image names stand opened afresh, the last of an id, and a RESTART keeps the account table; the LFSR takes the seed in
force. SETTINGS_LOADED, with the numbers that stand at the end (log entry 18), and READY are then the first notices to
join the queue. Each line then in service enters IDLE as at any READY.
R214, R215: SETTINGS_LOADED counts the items of the image that were skipped or that replaced another (log entry 18): each
line entry, tariff entry and slot outside its ranges, each setting outside its range and the four of the store pressure
where they fail their test, each dial plan entry that is no new entry of the plan, and, but at a RESTART, each account
that opened no free one. -/
def Obligations.LoadEnds : Prop :=
  (∀ (s : State) (restart : Bool) (f : LoadFailure), s.staged = [] → s.store.storeLow = false →
    let u := s.endLoad restart (.failure f)
    u.loader = ⟨true, none, some .defaults⟩
    ∧ u.settings = Settings.builtIn ∧ u.disp.plan = [] ∧ u.disp.lfsr = 27937#16
    ∧ (∀ n, u.lineEntry n = ⟨.both, 2, .r14400, true, false⟩)
    ∧ (∀ k, u.charge.tariff.get k = ⟨0, 0, 36000⟩) ∧ (∀ k, u.charge.schedule.get k = 0)
    ∧ u.charge.accounts = s.charge.accounts ∧ u.charge.clock = s.charge.clock
    ∧ u.charge.tickets = s.charge.tickets ∧ u.charge.meters = s.charge.meters
    ∧ u.charge.band = 0 ∧ u.jobs = s.jobs
    ∧ (∀ n, (s.chan n).deadline .restartGuard = none →
        u.chan n = { s.chan n with state := .idle } ∧ u.flag (8 + n.val) = true)
    ∧ (∀ n, (s.chan n).deadline .restartGuard ≠ none →
        u.chan n = s.chan n ∧ u.flag (8 + n.val) = s.flag (8 + n.val))
    ∧ (256 ≤ s.store.freeList.length → s.link.notices.length ≤ 62 →
        u.link.notices = s.link.notices ++
          [⟨s.link.intake, .settingsLoaded .defaults (some f) restart 0
              (if restart then 0 else s.charge.accountsUsed) 0⟩, ⟨s.link.intake, .ready⟩]))
  ∧ (∀ (s : State) (restart : Bool) (i : Image), s.staged = [] → s.store.storeLow = false →
    let u := s.endLoad restart (.image i)
    u.loader = ⟨true, none, some .image⟩
    ∧ u.disp.lfsr = u.settings.seed
    ∧ (∀ (reserve low high floor coarse fine cap seed spare hold band routing limit delay : Nat) (tag : List Byte),
        seed < 65536 →
        i.settings = [.num reserve, .num low, .num high, .num floor, .num coarse, .num fine, .num cap, .num seed,
          .num spare, .tag tag, .num hold, .num band, .num routing, .num limit, .num delay] →
        let ok : Bool := reserve ≤ low && low < high && high ≤ StoreSize.blocks s.straps.storeSize && reserve ≤ floor
          && floor ≤ 4096
        let within (lo hi v builtIn : Nat) : Nat := if lo ≤ v ∧ v ≤ hi then v else builtIn
        u.settings =
          { receiveReserve := if ok then reserve else 128, lowMark := if ok then low else 256
            highMark := if ok then high else 512, answerFloor := if ok then floor else 192
            refreshCoarse := within 1 16 coarse 2, refreshFine := within 1 16 fine 4
            backoffCap := within 0 4 cap 3, seed := if seed = 0 then 27937#16 else BitVec.ofNat 16 seed
            lineReserve := within 0 3 spare 1
            stationTag := if tag.length ≤ 20 ∧ ∀ c ∈ tag, 32 ≤ c.toNat ∧ c.toNat ≤ 126 then tag
              else List.replicate 20 32#8
            hold := within 1 30 hold 10, defaultBand := Fin.ofNat 4 (within 0 3 band 0)
            routing := if routing = 1 then .forward else if routing = 2 then .both else .print
            pageLimit := if limit = 0 then 4400 else limit, standbyDelay := min delay 3600 }
        ∧ (i.lines.length = 4 → u.settings.lowMark ≤ s.store.freeList.length → s.link.notices.length ≤ 62 →
            let one (p : Prop) [Decidable p] : Nat := if p then 1 else 0
            let lines := (i.lines.filter (fun x => decide ((LineMode.ofCode x.1).isNone ∨ 15 < x.2.1
              ∨ (Rate.ofBps x.2.2.1).isNone ∨ 1 < x.2.2.2))).length
            let tariff := (i.tariff.filter (fun x =>
              decide (7 < x.cls ∨ 3 < x.band ∨ x.period = 0 ∨ 36000 < x.period))).length
            let bands := (i.bands.filter (fun x => decide (3 < x))).length
            let settings := (if ok then 0 else 4) + one (coarse < 1 ∨ 16 < coarse) + one (fine < 1 ∨ 16 < fine)
              + one (4 < cap) + one (3 < spare)
              + one (20 < tag.length ∨ ∃ c ∈ tag, c.toNat < 32 ∨ 126 < c.toNat)
              + one (hold < 1 ∨ 30 < hold) + one (3 < band) + one (2 < routing) + one (limit = 0)
            let plan := i.plan.length - u.disp.plan.length
            let accounts := if restart then 0
              else i.accounts.length - (u.charge.accountsUsed - s.charge.accountsUsed)
            u.link.notices = s.link.notices ++
              [⟨s.link.intake, .settingsLoaded .image none restart u.disp.plan.length
                  (if restart then 0 else u.charge.accountsUsed)
                  (lines + tariff + bands + settings + plan + accounts)⟩, ⟨s.link.intake, .ready⟩]))
    ∧ (∀ (c : Fin 8) (b : Fin 4), u.charge.entry c b =
        match i.tariff.reverse.find? (fun t => t.cls == c.val && t.band == b.val
          && decide (1 ≤ t.period ∧ t.period ≤ 36000)) with
        | some t => ⟨t.connect, t.pulse, t.period⟩
        | none => ⟨0, 0, 36000⟩)
    ∧ (restart = false → ∀ a : Fin 64, u.charge.accounts.get a =
        match i.accounts.reverse.find? (fun x => x.1 == a.val && (x.2.1 == 1 || x.2.1 == 2)) with
        | some x => ⟨if x.2.1 = 1 then .opened else .suspended, x.2.2, 0, 0, false⟩
        | none => s.charge.accounts.get a)
    ∧ (∀ (n : Line) (m k c v : Nat) (mode : LineMode) (rate : Rate) (service : Bool),
        i.lines[n.val]? = some (m, k, c, v) → LineMode.ofCode m = some mode → Rate.ofBps c = some rate →
        k ≤ 15 → bitOf v = some service → u.lineEntry n = ⟨mode, k, rate, service, false⟩)
    ∧ (∀ k : Fin 144, i.bands.getD k.val 0 ≤ 3 → (u.charge.schedule.get k).val = i.bands.getD k.val 0)
    ∧ (∀ es : List DialEntry, i.plan.map DialItem.check = es.map some → (es.map (·.pfx)).Nodup →
        es.length ≤ 128 → u.disp.plan = es)
    ∧ (i.plan.length ≤ 128 → ∀ p, u.disp.plan.find? (fun e => e.pfx == p)
        = (i.plan.filterMap DialItem.check).reverse.find? (fun e => e.pfx == p))
    ∧ (restart = true → u.charge.accounts = s.charge.accounts)
    ∧ u.charge.clock = s.charge.clock ∧ u.charge.tickets = s.charge.tickets ∧ u.jobs = s.jobs
    ∧ (∀ n, (u.lineEntry n).inService = true → (s.chan n).deadline .restartGuard = none →
        u.chan n = { s.chan n with state := .idle } ∧ u.flag (8 + n.val) = true)
    ∧ (∀ n, (u.lineEntry n).inService = false ∨ (s.chan n).deadline .restartGuard ≠ none →
        u.chan n = s.chan n ∧ u.flag (8 + n.val) = s.flag (8 + n.val)))

/-- R217, with R21, R59, R86, R97, R120, R121, R129, R173, R176, R190 and R206: RESTART, its OK reply first. A body
that is not empty is refused with BAD_FORMAT. Every call ends, on-hook and stop given, an answered one with its ticket
of outcome RESTART, lowest line first (log entry 11), and an unanswered one giving its slot back; every pump is reset;
the pages, the jobs, the print queue and both encode contexts go, a page in progress abandoned; the host's flags and
the pass request go; the load begins: with a configuration memory its first byte is asked for, without one it ends at
once with cause NOT_FITTED. What R217 keeps stays. -/
def Obligations.RestartEndsEverything : Prop :=
  ∀ (s : State) (r : LinkRecord), Takes s .restart r →
    (r.body ≠ [] → exec .restart s = .next ((s.refusedWith r .badFormat).finish s.disp.flags))
    ∧ (r.body = [] → ∃ u : State,
      (s.straps.configPresent = true → exec .restart s = .next (State.finish { u with
        loader := ⟨false, some ⟨[], 0, s.timebase + 100, true⟩, s.loader.source⟩
        outputs := u.outputs ++ [.configRead 0] } s.disp.flags))
      ∧ (s.straps.configPresent = false →
          exec .restart s = .next ((u.endLoad true (.failure .notFitted)).finish s.disp.flags))
      ∧ u.loader = { s.loader with ready := false }
      ∧ u.outputs = s.outputs
        ++ allLines.flatMap (fun n =>
          (if (s.chan n).state ∈ [.outOfService, .idle, .ringIn, .clear] then []
            else [.onHook n, .pump n .stop]) ++ [.pump n .reset])
        ++ (if s.printer.state ∈ [.printing, .held, .faulted] then [.engine .abandon] else [])
      ∧ u.link = s.link.answered r (.ok [])
      ∧ u.charge.tickets = s.charge.tickets ++ allLines.filterMap (fun n =>
          (s.charge.meters.get n).map (fun m =>
            { account := m.account, job := m.job, dest := m.dest, line := n, cls := m.cls, band := m.band
              answerDay := m.answerDay, answerMs := m.answerMs, duration := s.timebase - m.t0
              pulses := m.pulses, total := m.total, outcome := .restart, digits := m.digits }))
      ∧ u.charge.slots = s.charge.slots - (allLines.filter (fun n =>
          (s.charge.meters.get n).isNone && (s.outCall n).isSome)).length
      ∧ (∀ n, u.charge.meters.get n = none)
      ∧ (∀ n, u.chan n = ⟨.outOfService, none, none, none,
          match (s.chan n).state with
          | .outOfService | .idle | .ringIn => []
          | _ => [(.restartGuard, s.timebase + 2000)]⟩)
      ∧ u.store.pages = [] ∧ u.store.freeList = List.range (StoreSize.blocks s.straps.storeSize)
      ∧ u.store.storeLow = false ∧ u.store.scanWaiting = false ∧ u.store.mem = s.store.mem
      ∧ u.staged = s.staged ++ (if s.store.storeLow
          then [.storeOk (StoreSize.blocks s.straps.storeSize)] else [])
      ∧ u.jobs = ⟨[], 0⟩ ∧ u.scanCtx = none ∧ u.linkCtx = none
      ∧ u.scanner.port = (if s.scanner.port = .scanning then .discarding else s.scanner.port)
      ∧ u.printer.queue = [] ∧ u.printer.paused = false ∧ u.printer.handed = none
      ∧ u.printer.decoder = none ∧ u.printer.holdTimer = none ∧ u.printer.standbyTimer = none
      ∧ u.printer.state = (if s.printer.state = .standby then .standby else .idle)
      ∧ u.printer.paperOut = s.printer.paperOut
      ∧ (∀ i, i = 6 ∨ (8 ≤ i ∧ i ≤ 15) → u.flag i = false)
      ∧ u.flag 4 = (s.flag 4 && !s.store.storeLow) ∧ u.flag 5 = s.flag 5 ∧ u.flag 7 = s.flag 7
      ∧ u.charge.band = (if s.flag 15 then u.findBand else s.charge.band)
      ∧ u.disp.passRequest = false
      ∧ u.charge.accounts = s.charge.accounts ∧ u.charge.clock = s.charge.clock
      ∧ u.straps = s.straps ∧ u.timebase = s.timebase ∧ u.settings = s.settings
      ∧ u.pending = s.pending)
/-! ## The stream link (10) -/

/-- R192, R207: a record sent whole, start code to check, is kept in the input buffer while a place is free, and the
framing hunts for the next start code.
R193: a record whose framing fails is discarded and counted, saturating at 65,535: one whose check differs in either
byte; one whose header names a body above 2,060, hunted again from the byte after its start code; one whose start code
finds all four places taken. Bytes that form no start code are not counted.
R207: a record is laid out as the start code 0xA5 0x5A, the kind, the tag, the body's length, the body and the check; the
check takes the bits of header and body one by one, each byte's most significant first, with generator 0x1021, preset to
0xFFFF, no inversion at the end. A number of several bytes has its high byte first. -/
def Obligations.Framing : Prop :=
  (∀ (s : State) (half : Bool) (k t : Byte) (body : List Byte),
    s.link.framer = .hunt half → s.link.input.length < 4 → body.length ≤ 2060 →
    exec (.linkRecordArrival (recordBytes k.toNat t.toNat body)) s = .next
      (State.finish { s with link := { s.link with
        framer := .hunt false, input := s.link.input ++ [⟨k, t, body⟩] } } s.disp.flags))
  ∧ (∀ (s : State) (half : Bool), s.link.framer = .hunt half →
    let counted : Link := { s.link with framer := .hunt false, errors := min 65535 (s.link.errors + 1) }
    (∀ (k t : Byte) (body check : List Byte), s.link.input.length < 4 → body.length ≤ 2060 →
        check.length = 2 → check ≠ (recordBytes k.toNat t.toNat body).drop (6 + body.length) →
        exec (.linkRecordArrival ((recordBytes k.toNat t.toNat body).take (6 + body.length) ++ check)) s
          = .next (State.finish { s with link := counted } s.disp.flags))
    ∧ (∀ (k t h l : Byte), s.link.input.length < 4 → 2060 < h.toNat * 256 + l.toNat →
        (∀ p, p ∈ List.zip [k, t, h] [t, h, l] → p ≠ (0xA5#8, 0x5A#8)) →
        exec (.linkRecordArrival [0xA5#8, 0x5A#8, k, t, h, l]) s
          = .next (State.finish { s with link := { counted with framer := .hunt (l == 0xA5#8) } }
              s.disp.flags))
    ∧ (s.link.input.length = 4 →
        exec (.linkRecordArrival [0xA5#8, 0x5A#8]) s
          = .next (State.finish { s with link := counted } s.disp.flags))
    ∧ (∀ b : Byte, half = false →
        exec (.linkRecordArrival [b]) s
          = .next (State.finish { s with link := { s.link with framer := .hunt (b == 0xA5#8) } }
              s.disp.flags)))
  ∧ (∀ (kind tag : Nat) (body : List Byte),
    let bits (b : Byte) : List Bool := (List.range 8).map (fun i => b.getLsbD (7 - i))
    let shift (c : BitVec 16) (bit : Bool) : BitVec 16 :=
      if c.getLsbD 15 = bit then c <<< 1 else (c <<< 1) ^^^ 0x1021#16
    let covered := num1 kind ++ num1 tag ++ num2 body.length ++ body
    recordBytes kind tag body
      = [0xA5#8, 0x5A#8] ++ covered ++ num2 ((covered.flatMap bits).foldl shift 0xFFFF#16).toNat)
  ∧ (∀ n : Nat,
    let holds (bytes : List Byte) (k : Nat) : Prop :=
      bytes.length = k ∧ bytes.foldl (fun v b => v * 256 + b.toNat) 0 = n % 256 ^ k
    holds (num1 n) 1 ∧ holds (num2 n) 2 ∧ holds (num4 n) 4 ∧ holds (num6 n) 6)

/-- R195, R196: a record command takes the oldest record where it is of its kind and a reply place is free; that it
does nothing otherwise is the model's choice (log entry 10).
R195, R196: every record owed a reply gets exactly one, queued in the event in which it is taken, with the kind and
tag of the record and its new intake number; a refused record changes nothing else.
R196: a record of an unknown kind is refused with UNKNOWN_KIND whether or not the part is ready; before the part is
ready every other record but IDENT (and RASTER LINE, which R53 answers) is refused with NOT_READY. -/
def Obligations.RecordsAreAnswered : Prop :=
  (∀ (k : RecordKind) (s : State), (∀ r, ¬ AtHead s k r) → exec k.command s = .next s)
  ∧ (∀ (k : RecordKind) (s : State) (r : LinkRecord), AtHead s k r → k ≠ .rasterLine →
    ∃ (u : State) (res : ReplyResult),
      exec k.command s = .next (u.finish s.disp.flags)
      ∧ u.link.replies = s.link.replies ++ [⟨r.kind, r.tag, (s.link.intake + 1) % 65536, res⟩]
      ∧ u.link.intake = (s.link.intake + 1) % 65536
      ∧ u.link.input = s.link.input.tail
      ∧ (∀ c, res = .refused c → u = s.refusedWith r c))
  ∧ (∀ (s : State) (r : LinkRecord),
    (AtHead s .unknown r →
      exec .unknownKind s = .next ((s.refusedWith r .unknownKind).finish s.disp.flags))
    ∧ (∀ k : RecordKind, AtHead s k r → s.loader.ready = false →
        k ≠ .ident → k ≠ .unknown → k ≠ .rasterLine →
        exec k.command s = .next ((s.refusedWith r .notReady).finish s.disp.flags)))

/-- R197: IDENT, before and after the part is ready; the link rate stands in bit/s (R209). -/
def Obligations.IdentReply : Prop :=
  ∀ (s : State) (r : LinkRecord), AtHead s .ident r →
    (r.body ≠ [] → exec .ident s = .next ((s.refusedWith r .badFormat).finish s.disp.flags))
    ∧ (r.body = [] →
        exec .ident s = .next ((s.answeredOk r
          ([0x01#8, 0xA0#8, 1#8]
            ++ (match s.straps.storeSize with | .kib512 => [0x08#8, 0#8] | .mib1 => [0x10#8, 0#8])
            ++ (match s.straps.linkRate with
                | .mbit1 => [0#8, 0x0F#8, 0x42#8, 0x40#8] | .mbit2 => [0#8, 0x1E#8, 0x84#8, 0x80#8]
                | .mbit4 => [0#8, 0x3D#8, 0x09#8, 0#8] | .mbit8 => [0#8, 0x7A#8, 0x12#8, 0#8])
            ++ [if s.straps.configPresent then 1#8 else 0#8]
            ++ [if s.loader.ready then 1#8 else 0#8]
            ++ (match s.loader.source with
                | none => [0#8] | some .image => [1#8, 0#8] | some .defaults => [1#8, 1#8]))).finish
          s.disp.flags))

/-- R202, R203, R195: the output hold, and the freeing of the link. Asserting the hold changes the hold alone. Releasing
it, and the last check byte of a record gone out (at its time, log entry 1), let the arbiter choose; where the reply
chosen leaves the place that the oldest record waited for, that record is taken in the same event. With nothing being
sent, a freeing of the link has no effect. -/
def Obligations.OutboundLink : Prop :=
  ∀ s : State,
    let choose (u : State) : State :=
      match s.link.input, u.arbitrate with
      | r :: _, v =>
        if s.link.canTake r = false ∧ v.link.canTake r = true then v.takeOldest r recordEffect else v
      | [], v => v
    exec .outputHoldAssert s
      = .next (State.finish { s with link := { s.link with outputHold := true } } s.disp.flags)
    ∧ exec .outputHoldRelease s
      = .next ((choose { s with link := { s.link with outputHold := false } }).finish s.disp.flags)
    ∧ (s.link.sending = none → exec .outboundLinkFree s = .next s)
    ∧ (∀ x, s.link.sending = some x →
        exec .outboundLinkFree s
          = .next ((choose { s.advanceTo x.doneAt with
              link := { s.link with sending := none } }).finish s.disp.flags))

/-- R199, R205: STATUS shows the lost flag and clears it, and changes nothing else; the reply's fields stand in the
order of the table of R199, the counts of replies, notices and items as they stand when the record is taken. -/
def Obligations.StatusReply : Prop :=
  ∀ (s : State) (r : LinkRecord), Takes s .status r →
    (r.body ≠ [] → exec .status s = .next ((s.refusedWith r .badFormat).finish s.disp.flags))
    ∧ (r.body = [] →
        let line (n : Line) : List Byte :=
          num1 (s.chan n).state.code
            ++ (match (s.chan n).call with
                | none => [0#8] | some (.outgoing _) => [1#8, 0#8] | some (.incoming _) => [1#8, 1#8])
            ++ (match (s.chan n).call with
                | some (.outgoing c) =>
                  (match c.rate with | some x => 1#8 :: num2 (Rate.bps x) | none => [0#8])
                    ++ 1#8 :: num2 c.job ++ 1#8 :: num1 c.dest
                | some (.incoming c) =>
                  (match c.rate with | some x => 1#8 :: num2 (Rate.bps x) | none => [0#8]) ++ [0#8, 0#8]
                | none => [0#8, 0#8, 0#8])
            ++ yesNo (s.lineEntry n).inService ++ yesNo (s.lineEntry n).stopPending
        let held := (s.store.pages.filter (fun p => decide (Holder.forward ∈ p.holders))).map (·.id)
        exec .status s = .next (State.finish { s with link := { s.link.answered r (.ok
          (yesNo s.link.lost ++ num2 s.link.errors ++ num2 ((s.link.intake + 1) % 65536)
            ++ num1 s.link.replies.length ++ num1 s.link.notices.length ++ num1 s.link.blocks.length
            ++ num2 s.store.freeList.length ++ yesNo s.store.storeLow ++ num1 s.store.pages.length
            ++ num1 s.jobs.jobs.length
            ++ num2 (256 - (s.jobs.jobs.map (fun j => j.dests.length)).sum)
            ++ num2 s.disp.flags.toNat ++ num1 s.disp.plan.length ++ num1 s.settings.lineReserve
            ++ line 0 ++ line 1 ++ line 2 ++ line 3
            ++ num1 s.charge.clock.day ++ num4 s.charge.clock.ms ++ num1 s.charge.band.val
            ++ num1 (s.charge.accounts.toList.filter (fun a => a.state != .free)).length
            ++ num1 s.charge.tickets.length
            ++ num1 (allLines.filter (fun n => (s.outCall n).isSome)).length
            ++ num1 s.printer.queue.length ++ num1 s.printer.state.code ++ yesNo s.printer.paused
            ++ yesNo s.printer.paperOut ++ num1 held.length
            ++ (match held with | p :: _ => 1#8 :: num1 p | [] => [0#8]))) with
          lost := false } } s.disp.flags))

/-- R198, R157: FLAG SET: a body of another length than four is refused with BAD_FORMAT, a change set with a flag below
12 with BAD_VALUE. Else each flag of the change set takes its value from the value set, every other keeps its own; a
change of HOLIDAY finds the band again, and the band flags follow it (R96); the reply carries the flags. All of it is
one event: `finish` evaluates the releases once, against the flags the event found. -/
def Obligations.FlagSet : Prop :=
  (∀ (s : State) (r : LinkRecord), Takes s .flagSet r → r.body.length ≠ 4 →
    exec .flagSet s = .next ((s.refusedWith r .badFormat).finish s.disp.flags))
  ∧ ∀ (s : State) (r : LinkRecord) (change value : BitVec 16), Takes s .flagSet r →
    r.body = num2 change.toNat ++ num2 value.toNat →
    ((∃ i, i < 12 ∧ change.getLsbD i = true) →
      exec .flagSet s = .next ((s.refusedWith r .badValue).finish s.disp.flags))
    ∧ ((∀ i, i < 12 → change.getLsbD i = false) →
        ∃ u : State,
          exec .flagSet s = .next (u.finish s.disp.flags)
          ∧ u.link = s.link.answered r (.ok (num2 u.disp.flags.toNat))
          ∧ (∀ i, 4 ≤ i → i < 16 →
              u.flag i = if change.getLsbD i then value.getLsbD i else s.flag i)
          ∧ (u.flag 15 = s.flag 15 → u.charge.band = s.charge.band ∧ ∀ i, i < 4 → u.flag i = s.flag i)
          ∧ (u.flag 15 ≠ s.flag 15 →
              u.charge.band = u.findBand
              ∧ (u.charge.band = s.charge.band → ∀ i, i < 4 → u.flag i = s.flag i)
              ∧ (u.charge.band ≠ s.charge.band →
                  ∀ i, i < 4 → u.flag i = decide (i = u.charge.band.val)))
          ∧ u = { s with
              link := u.link, charge := { s.charge with band := u.charge.band }
              disp := { s.disp with flags := u.disp.flags } })
/-! ## The clock, the tables and the settings (05, 08, 10) -/

/-- R155, R157: CLOCK SET: the clock takes the record's values, CLOCK_SET is set, and the band in force is the one the
schedule names for the day type and the slot of the new time: SUNDAY on day 0 and on a holiday, SATURDAY on day 6, else
WEEKDAY; the slot is the millisecond of the day ÷ 1,800,000. The band flags follow a change of band (R96). Before the
part is ready, on a body that does not parse and on a value out of range it is refused and the clock stays. -/
def Obligations.ClockSet : Prop :=
  (∀ (s : State) (r : LinkRecord), AtHead s .clockSet r →
    (s.loader.ready = false →
      exec .clockSet s = .next ((s.refusedWith r .notReady).finish s.disp.flags))
    ∧ (s.loader.ready = true → r.body.length ≠ 5 →
      exec .clockSet s = .next ((s.refusedWith r .badFormat).finish s.disp.flags)))
  ∧ ∀ (s : State) (r : LinkRecord) (day ms : Nat), Takes s .clockSet r → day < 256 → ms < 4294967296 →
    r.body = num1 day ++ num4 ms →
    (6 < day ∨ 86399999 < ms →
      exec .clockSet s = .next ((s.refusedWith r .badValue).finish s.disp.flags))
    ∧ (day ≤ 6 → ms ≤ 86399999 → ∀ slot : Fin 144,
        slot.val = ms / 1800000
          + 48 * (if day = 0 ∨ s.flag 15 = true then 2 else if day = 6 then 1 else 0) →
        let band := s.charge.schedule.get slot
        let flags := s.disp.flags ||| 0x0080#16
        exec .clockSet s = .next (State.finish
          { s with
            link := s.link.answered r (.ok (num1 band.val))
            charge := { s.charge with clock := ⟨day, ms⟩, band := band }
            disp := { s.disp with flags :=
              if band = s.charge.band then flags else (flags &&& 0xFFF0#16) ||| (1#16 <<< band.val) } }
          s.disp.flags))

/-- R159: TARIFF LOAD: with every entry in its range each replaces the entry of its class and band, in list order, so
that the last entry of a class and band stands; the reply carries their number. One entry out of range refuses the
whole record, and so does a list of no entry or of more than 32.
R156, R157: BAND LOAD: the named slots of the day type take the bands of the list, every other slot keeps its own;
the band in force is found again, and the reply carries it. -/
def Obligations.TariffAndBandLoad : Prop :=
  (∀ (s : State) (r : LinkRecord) (items : List TariffItem), Takes s .tariffLoad r →
    items.length < 256 →
    (∀ i ∈ items, i.cls < 256 ∧ i.band < 256 ∧ i.connect < 65536 ∧ i.pulse < 65536 ∧ i.period < 65536) →
    r.body = num1 items.length ++ items.flatMap (fun i =>
      num1 i.cls ++ num1 i.band ++ num2 i.connect ++ num2 i.pulse ++ num2 i.period) →
    let inRange (i : TariffItem) : Prop := i.cls ≤ 7 ∧ i.band ≤ 3 ∧ 1 ≤ i.period ∧ i.period ≤ 36000
    (items = [] ∨ 32 < items.length →
      exec .tariffLoad s = .next ((s.refusedWith r .badFormat).finish s.disp.flags))
    ∧ (1 ≤ items.length → items.length ≤ 32 → (∃ i ∈ items, ¬ inRange i) →
        exec .tariffLoad s = .next ((s.refusedWith r .badValue).finish s.disp.flags))
    ∧ (1 ≤ items.length → items.length ≤ 32 → (∀ i ∈ items, inRange i) →
        ∃ tariff : Vector TariffEntry 32,
          exec .tariffLoad s = .next (State.finish
            { s.answeredOk r (num1 items.length) with charge := { s.charge with tariff := tariff } }
            s.disp.flags)
          ∧ ∀ (c : Fin 8) (b : Fin 4),
              Charge.entry { s.charge with tariff := tariff } c b =
                match items.reverse.find? (fun i => i.cls == c.val && i.band == b.val) with
                | some i => ⟨i.connect, i.pulse, i.period⟩
                | none => s.charge.entry c b))
  ∧ (∀ (s : State) (r : LinkRecord) (day first : Nat) (bands : List (BitVec 8)), Takes s .bandLoad r →
    day < 256 → first < 256 → bands.length < 256 →
    r.body = num1 day ++ num1 first ++ num1 bands.length ++ bands →
    (bands = [] ∨ 48 < bands.length →
      exec .bandLoad s = .next ((s.refusedWith r .badFormat).finish s.disp.flags))
    ∧ (1 ≤ bands.length → bands.length ≤ 48 →
        (2 < day ∨ 47 < first ∨ 48 < first + bands.length ∨ ∃ b ∈ bands, 3 < b.toNat) →
        exec .bandLoad s = .next ((s.refusedWith r .badValue).finish s.disp.flags))
    ∧ (1 ≤ bands.length → day ≤ 2 → first + bands.length ≤ 48 → (∀ b ∈ bands, b.toNat ≤ 3) →
        ∃ schedule : Vector (Fin 4) 144,
          (∀ k : Fin 144, (schedule.get k).val =
            if 48 * day + first ≤ k.val ∧ k.val < 48 * day + first + bands.length
            then (bands.getD (k.val - (48 * day + first)) 0).toNat else (s.charge.schedule.get k).val)
          ∧ (let found := State.findBand { s with charge := { s.charge with schedule := schedule } }
             exec .bandLoad s = .next (State.finish
              { s.answeredOk r (num1 found.val) with
                charge := { s.charge with schedule := schedule, band := found }
                disp := { s.disp with flags := if found = s.charge.band then s.disp.flags
                  else (s.disp.flags &&& 0xFFF0#16) ||| (1#16 <<< found.val) } } s.disp.flags))))

/-- R88, R89: DIAL PLAN LOAD and DIAL PLAN REMOVE. An entry within its ranges replaces the entry that holds its prefix,
or takes a free place; with 128 entries in use and none holding the prefix it is refused with FULL. A remove takes the
entry holding the prefix out, and is refused with NO_SUCH where none holds it. Both ask for a pass (R99). The reply to
a load says replaced (0) or added (1) (log entry 22). An entry or a prefix that fails the test of R88 is refused with
BAD_VALUE; that a line mask above 15 or a barred byte above 1 fails it is log entry 20. -/
def Obligations.DialPlan : Prop :=
  ∀ (s : State) (r : LinkRecord),
    (∀ i : DialItem, Takes s .dialPlanLoad r → i.pfx.length < 256 → i.prepend.length < 256 → i.cls < 256 →
      i.strip < 256 → i.mask < 256 → i.barred < 256 →
      r.body = text i.pfx ++ num1 i.cls ++ num1 i.strip ++ text i.prepend ++ num1 i.mask ++ num1 i.barred →
      let dialled (c : BitVec 8) : Prop := (48 ≤ c.toNat ∧ c.toNat ≤ 57) ∨ c = 42#8 ∨ c = 35#8
      let ok : Prop := i.pfx.length ≤ 16 ∧ (∀ c ∈ i.pfx, dialled c) ∧ i.cls ≤ 7 ∧ i.strip ≤ 16
        ∧ 1 ≤ i.mask ∧ i.mask ≤ 15 ∧ i.prepend.length ≤ 8 ∧ (∀ c ∈ i.prepend, dialled c)
        ∧ i.barred ≤ 1
      (¬ ok → exec .dialPlanLoad s = .next ((s.refusedWith r .badValue).finish s.disp.flags))
      ∧ (ok → ∀ cls : Fin 8, cls.val = i.cls →
          let e : DialEntry := ⟨i.pfx, cls, i.strip, i.prepend, BitVec.ofNat 4 i.mask, i.barred == 1⟩
          let loaded (plan : List DialEntry) (added : BitVec 8) : Prop :=
            exec .dialPlanLoad s = .next (State.finish { s.answeredOk r [added] with
              disp := { s.disp with plan := plan, passRequest := true } } s.disp.flags)
          ((∃ x ∈ s.disp.plan, x.pfx = i.pfx) →
            loaded (s.disp.plan.map (fun x => if x.pfx = i.pfx then e else x)) 0#8)
          ∧ ((∀ x ∈ s.disp.plan, x.pfx ≠ i.pfx) → s.disp.plan.length < 128 →
              loaded (s.disp.plan ++ [e]) 1#8)
          ∧ ((∀ x ∈ s.disp.plan, x.pfx ≠ i.pfx) → 128 ≤ s.disp.plan.length →
              exec .dialPlanLoad s = .next ((s.refusedWith r .full).finish s.disp.flags))))
    ∧ (∀ p : List (BitVec 8), Takes s .dialPlanRemove r → p.length < 256 → r.body = text p →
        let ok : Prop := p.length ≤ 16 ∧ ∀ c ∈ p, (48 ≤ c.toNat ∧ c.toNat ≤ 57) ∨ c = 42#8 ∨ c = 35#8
        (¬ ok → exec .dialPlanRemove s = .next ((s.refusedWith r .badValue).finish s.disp.flags))
        ∧ (ok → (∀ x ∈ s.disp.plan, x.pfx ≠ p) →
          exec .dialPlanRemove s = .next ((s.refusedWith r .noSuch).finish s.disp.flags))
        ∧ (ok → (∃ x ∈ s.disp.plan, x.pfx = p) →
            exec .dialPlanRemove s = .next (State.finish { s.answeredOk r [] with
              disp := { s.disp with
                plan := s.disp.plan.filter (fun x => decide (x.pfx ≠ p)), passRequest := true } }
              s.disp.flags)))

/-- R90: a lookup is served by the entry with the longest prefix the dial string begins with; a barred entry gives
BARRED; else the route is the prepend and the dial string less its first *strip* characters, or NO_ROUTE where that is
empty or holds nothing but pauses. -/
def Obligations.LongestPrefixServes : Prop :=
  ∀ (plan : List DialEntry) (dial : List (BitVec 8)), (plan.map (·.pfx)).Nodup →
    ((∀ e ∈ plan, ¬ e.pfx <+: dial) → lookup plan dial = .noRoute)
    ∧ (∀ e ∈ plan, e.pfx <+: dial → (∀ x ∈ plan, x.pfx <+: dial → x.pfx.length ≤ e.pfx.length) →
        let digits := e.prepend ++ dial.drop e.strip
        (e.barred = true → lookup plan dial = .barred ⟨digits, e.cls, e.mask⟩)
        ∧ (e.barred = false → (∀ c ∈ digits, c = 44#8) → lookup plan dial = .noRoute)
        ∧ (e.barred = false → (∃ c ∈ digits, c ≠ 44#8) →
            lookup plan dial = .route ⟨digits, e.cls, e.mask⟩))

/-- R93: LINE SET replaces the mode, the rings to answer and the rate ceiling of the line, leaves *in service* and *stop
pending* and every other line as they are, and asks for a pass; a value out of its range is refused. -/
def Obligations.LineSet : Prop :=
  ∀ (s : State) (r : LinkRecord) (line mode rings ceiling : Nat), Takes s .lineSet r →
    line < 256 → mode < 256 → rings < 256 → ceiling < 65536 →
    r.body = num1 line ++ num1 mode ++ num1 rings ++ num2 ceiling →
    (3 < line ∨ 2 < mode ∨ 15 < rings ∨ ceiling ∉ [2400, 4800, 7200, 9600, 12000, 14400] →
      exec .lineSet s = .next ((s.refusedWith r .badValue).finish s.disp.flags))
    ∧ (∀ (n : Line) (m : LineMode) (c : Rate), n.val = line →
        mode = (match m with | .both => 0 | .send => 1 | .receive => 2) → ceiling = Rate.bps c → rings ≤ 15 →
        ∃ u : State,
          exec .lineSet s = .next (u.finish s.disp.flags)
          ∧ u.lineEntry n = { s.lineEntry n with mode := m, rings := rings, ceiling := c }
          ∧ (∀ k, k ≠ n → u.lineEntry k = s.lineEntry k)
          ∧ u = { s.answeredOk r [] with
              disp := { s.disp with lineTable := u.disp.lineTable, passRequest := true } })

/-- R200, R201 with R7, R77, R94 and R158: SETTINGS SET of one pair. A value in its range is taken: a seed also loads
the LFSR, a changed line reserve asks for a pass, a default band changed with CLOCK_SET clear is the band in force, and
the others act on their next use. A value out of its range is refused with BAD_VALUE, and so is a number that names no
setting; the standby delay is clamped to 3,600. The reply shows every setting.
R4, R6, R7, R200, R201: SETTINGS SET of any pairs: a setting named twice is BAD_FORMAT; a value out of its range, or
store pressure settings that as they would stand fail reserve ≤ low mark < high mark ≤ store size and reserve ≤ answer
floor ≤ 4,096, is BAD_VALUE, and no setting changes. Else every named setting takes its value and acts in the same
event: where a mark changes STORE_LOW is set with the free count below the low mark, and cleared with it at the high
mark, its notice and condition flag with it and the lines told, lowest first (log entry 11); a lowered reserve retakes
a waiting scan request, after that test (log entry 32); a seed loads the LFSR; a changed line reserve asks for a pass; a changed default band with
CLOCK_SET clear is the band in force. -/
def Obligations.SettingsSet : Prop :=
  (∀ (s : State) (r : LinkRecord), Takes s .settingsSet r →
    let takes (st : Settings) (disp : Dispatcher) (charge : Charge) : Prop :=
      exec .settingsSet s = .next (State.finish { s with
        link := s.link.answered r (.ok st.bytes), settings := st, disp := disp, charge := charge }
        s.disp.flags)
    let sets (st : Settings) : Prop := takes st s.disp s.charge
    let refused : Prop := exec .settingsSet s = .next ((s.refusedWith r .badValue).finish s.disp.flags)
    let one (k v : Nat) : Prop := r.body = num1 1 ++ num1 k ++ num1 v ∧ v < 256
    let two (k v : Nat) : Prop := r.body = num1 1 ++ num1 k ++ num2 v ∧ v < 65536
    (r.body = num1 0 → sets s.settings)
    ∧ (∀ v, one 5 v → (1 ≤ v ∧ v ≤ 16 → sets { s.settings with refreshCoarse := v })
        ∧ (v = 0 ∨ 16 < v → refused))
    ∧ (∀ v, one 6 v → (1 ≤ v ∧ v ≤ 16 → sets { s.settings with refreshFine := v })
        ∧ (v = 0 ∨ 16 < v → refused))
    ∧ (∀ v, one 7 v → (v ≤ 4 → sets { s.settings with backoffCap := v }) ∧ (4 < v → refused))
    ∧ (∀ v, two 8 v →
        let x : BitVec 16 := if v = 0 then 27937#16 else BitVec.ofNat 16 v
        takes { s.settings with seed := x } { s.disp with lfsr := x } s.charge)
    ∧ (∀ v, one 9 v → (v ≤ 3 → takes { s.settings with lineReserve := v }
            (if v = s.settings.lineReserve then s.disp else { s.disp with passRequest := true }) s.charge)
        ∧ (3 < v → refused))
    ∧ (∀ t : List (BitVec 8), t.length < 256 → r.body = num1 1 ++ num1 10 ++ text t →
        (t.length ≤ 20 → (∀ c ∈ t, 32 ≤ c.toNat ∧ c.toNat ≤ 126) →
          sets { s.settings with stationTag := t })
        ∧ (20 < t.length ∨ (∃ c ∈ t, c.toNat < 32 ∨ 126 < c.toNat) → refused))
    ∧ (∀ v, one 11 v → (1 ≤ v ∧ v ≤ 30 → sets { s.settings with hold := v })
        ∧ (v = 0 ∨ 30 < v → refused))
    ∧ (∀ v, one 12 v → (3 < v → refused)
        ∧ (∀ b : Fin 4, b.val = v →
            (s.flag 7 = true ∨ b = s.settings.defaultBand → sets { s.settings with defaultBand := b })
            ∧ (s.flag 7 = false → b ≠ s.settings.defaultBand →
                takes { s.settings with defaultBand := b }
                  { s.disp with flags := if b = s.charge.band then s.disp.flags
                    else (s.disp.flags &&& 0xFFF0#16) ||| (1#16 <<< b.val) }
                  { s.charge with band := b })))
    ∧ (∀ v, one 13 v → (v = 0 → sets { s.settings with routing := .print })
        ∧ (v = 1 → sets { s.settings with routing := .forward })
        ∧ (v = 2 → sets { s.settings with routing := .both }) ∧ (2 < v → refused))
    ∧ (∀ v, two 14 v → (1 ≤ v → sets { s.settings with pageLimit := v }) ∧ (v = 0 → refused))
    ∧ (∀ v, two 15 v → sets { s.settings with standbyDelay := min v 3600 })
    ∧ (∀ k v, (k = 0 ∨ 15 < k) → k < 256 → one k v → refused))
  ∧ (∀ (s : State) (r : LinkRecord) (ps : List (Nat × SettingValue)), Takes s .settingsSet r → ps.length < 256 →
    (∀ p ∈ ps, (∃ n, p.2 = .num n ∧ ((p.1 ∈ [5, 6, 7, 9, 11, 12, 13] ∧ n < 256)
        ∨ (p.1 ∈ [1, 2, 3, 4, 8, 14, 15] ∧ n < 65536)))
      ∨ (∃ t, p.2 = .tag t ∧ p.1 = 10 ∧ t.length < 256)) →
    r.body = num1 ps.length ++ ps.flatMap (fun p => num1 p.1 ++ (match p.2 with
      | .num n => if p.1 ∈ [5, 6, 7, 9, 11, 12, 13] then num1 n else num2 n
      | .tag t => text t)) →
    (¬ (ps.map (·.1)).Nodup → exec .settingsSet s = .next ((s.refusedWith r .badFormat).finish s.disp.flags))
    ∧ ((ps.map (·.1)).Nodup →
        let c := s.settings
        let value (k : Nat) : Option SettingValue := (ps.find? (fun p => p.1 == k)).map (·.2)
        let num (k old : Nat) : Nat := match value k with | some (.num n) => n | _ => old
        let st : Settings :=
          { receiveReserve := num 1 c.receiveReserve, lowMark := num 2 c.lowMark, highMark := num 3 c.highMark
            answerFloor := num 4 c.answerFloor, refreshCoarse := num 5 c.refreshCoarse
            refreshFine := num 6 c.refreshFine, backoffCap := num 7 c.backoffCap
            seed := match value 8 with
              | some (.num n) => if n = 0 then 27937#16 else BitVec.ofNat 16 n
              | _ => c.seed
            lineReserve := num 9 c.lineReserve
            stationTag := match value 10 with | some (.tag t) => t | _ => c.stationTag
            hold := num 11 c.hold
            defaultBand := match value 12 with | some (.num n) => Fin.ofNat 4 n | _ => c.defaultBand
            routing := match value 13 with
              | some (.num n) => if n = 0 then .print else if n = 1 then .forward else .both
              | _ => c.routing
            pageLimit := num 14 c.pageLimit
            standbyDelay := match value 15 with | some (.num n) => min n 3600 | _ => c.standbyDelay }
        let inRange : Prop :=
          (∀ n, (5, .num n) ∈ ps ∨ (6, .num n) ∈ ps → 1 ≤ n ∧ n ≤ 16) ∧ (∀ n, (7, .num n) ∈ ps → n ≤ 4)
          ∧ (∀ n, (9, .num n) ∈ ps ∨ (12, .num n) ∈ ps → n ≤ 3)
          ∧ (∀ t, (10, .tag t) ∈ ps → t.length ≤ 20 ∧ ∀ x ∈ t, 32 ≤ x.toNat ∧ x.toNat ≤ 126)
          ∧ (∀ n, (11, .num n) ∈ ps → 1 ≤ n ∧ n ≤ 30) ∧ (∀ n, (13, .num n) ∈ ps → n ≤ 2)
          ∧ (∀ n, (14, .num n) ∈ ps → 1 ≤ n)
          ∧ ((∃ p ∈ ps, p.1 ≤ 4) → st.receiveReserve ≤ st.lowMark ∧ st.lowMark < st.highMark
              ∧ st.highMark ≤ StoreSize.blocks s.straps.storeSize ∧ st.receiveReserve ≤ st.answerFloor
              ∧ st.answerFloor ≤ 4096)
        (¬ inRange → exec .settingsSet s = .next ((s.refusedWith r .badValue).finish s.disp.flags))
        ∧ (inRange →
            let u : State := { s with link := s.link.take, settings := st }
            let free := s.store.freeList.length
            let tested : State :=
              if st.lowMark = c.lowMark ∧ st.highMark = c.highMark then u
              else if s.store.storeLow then
                if st.highMark ≤ free then
                  allLines.foldl State.resumeLine { u with
                    store := { s.store with storeLow := false }, staged := s.staged ++ [.storeOk free]
                    disp := { s.disp with flags := s.disp.flags &&& 0xFFEF#16 } }
                else u
              else if free < st.lowMark then
                { u with
                  store := { s.store with storeLow := true }, staged := s.staged ++ [.storeLow free]
                  disp := { s.disp with flags := s.disp.flags ||| 0x0010#16 } }
              else u
            let retaken : State :=
              if st.receiveReserve < c.receiveReserve ∧ s.store.scanWaiting = true then tested.writeScanHeld
              else tested
            let seeded : State :=
              if 8 ∈ ps.map (·.1) then { retaken with disp := { retaken.disp with lfsr := st.seed } } else retaken
            let asked : State :=
              if st.lineReserve = c.lineReserve then seeded
              else { seeded with disp := { seeded.disp with passRequest := true } }
            let banded : State :=
              if st.defaultBand = c.defaultBand ∨ asked.flag 7 = true ∨ st.defaultBand = asked.charge.band then asked
              else { asked with
                charge := { asked.charge with band := st.defaultBand }
                disp := { asked.disp with
                  flags := (asked.disp.flags &&& 0xFFF0#16) ||| (1#16 <<< st.defaultBand.val) } }
            exec .settingsSet s = .next ((banded.replyOk r st.bytes).finish s.disp.flags))))
/-! ## Accounts (08) -/

/-- R168 to R171: the account records. An id above 63 is refused with BAD_VALUE by each; a FREE account with NO_SUCH by
all but OPEN, which opens it, and READ, which shows it; an account named by a job is not closed. SUSPEND, RESUME and
CLEAR set the state, or spent, calls charged and at limit; RESUME and CLEAR release the account's HELD_ACCOUNT
destinations that pass the gate (R79) and ask for a pass. Every other account stays as it was.
R170: ACCOUNT SET BUDGET: the new budget, and at limit as the new budget and spent have it. A change of at limit from
no to yes queues ACCOUNT_LIMIT with the number of the account's answered calls, which are told to finish as R167 gives;
then the HELD_ACCOUNT destinations are tested again (R79). -/
def Obligations.AccountRecords : Prop :=
  (∀ (s : State) (r : LinkRecord) (a : Nat), a < 256 →
    let refused (c : Instr) (e : RefusalCode) : Prop :=
      exec c s = .next ((s.refusedWith r e).finish s.disp.flags)
    let short (k : RecordKind) : Prop := Takes s k r ∧ r.body = num1 a
    (63 < a →
      (∀ b, b < 4294967296 → r.body = num1 a ++ num4 b →
        (Takes s .accountOpen r → refused .accountOpen .badValue)
        ∧ (Takes s .accountSetBudget r → refused .accountSetBudget .badValue))
      ∧ (short .accountSuspend → refused .accountSuspend .badValue)
      ∧ (short .accountResume → refused .accountResume .badValue)
      ∧ (short .accountClear → refused .accountClear .badValue)
      ∧ (short .accountClose → refused .accountClose .badValue)
      ∧ (short .accountRead → refused .accountRead .badValue))
    ∧ (∀ id : Fin 64, id.val = a →
        let x := s.charge.accounts.get id
        let put (u : State) (y : Account) : State :=
          { u with charge := { u.charge with accounts := u.charge.accounts.set id.val y id.isLt } }
        let shown (y : Account) : List Byte :=
          num1 (match y.state with | .free => 0 | .opened => 1 | .suspended => 2) ++ num4 y.spent
            ++ yesNo y.atLimit
        (∀ b, b < 4294967296 → Takes s .accountOpen r → r.body = num1 a ++ num4 b →
          (x.state ≠ .free → refused .accountOpen .duplicate)
          ∧ (x.state = .free →
              exec .accountOpen s = .next
                ((put (s.answeredOk r []) ⟨.opened, b, 0, 0, false⟩).finish s.disp.flags)))
        ∧ (x.state = .free →
            (short .accountSuspend → refused .accountSuspend .noSuch)
            ∧ (short .accountResume → refused .accountResume .noSuch)
            ∧ (short .accountClear → refused .accountClear .noSuch)
            ∧ (short .accountClose → refused .accountClose .noSuch)
            ∧ (∀ b, b < 4294967296 → Takes s .accountSetBudget r → r.body = num1 a ++ num4 b →
                refused .accountSetBudget .noSuch))
        ∧ (x.state ≠ .free →
            let held (u : State) (y : Account) : State := (put u y).reevaluateHeld id
            (short .accountSuspend →
              exec .accountSuspend s = .next
                ((put (s.answeredOk r (shown { x with state := .suspended }))
                  { x with state := .suspended }).finish s.disp.flags))
            ∧ (short .accountResume →
                exec .accountResume s = .next
                  ((held (s.answeredOk r (shown { x with state := .opened }))
                    { x with state := .opened }).finish s.disp.flags))
            ∧ (short .accountClear →
                exec .accountClear s = .next
                  ((held (s.answeredOk r (shown { x with spent := 0, calls := 0, atLimit := false }))
                    { x with spent := 0, calls := 0, atLimit := false }).finish s.disp.flags))
            ∧ (short .accountClose →
                ((∃ j ∈ s.jobs.jobs, j.account = id) → refused .accountClose .inUse)
                ∧ ((∀ j ∈ s.jobs.jobs, j.account ≠ id) →
                    exec .accountClose s = .next
                      ((put (s.answeredOk r []) ⟨.free, 0, 0, 0, false⟩).finish s.disp.flags))))
        ∧ (short .accountRead →
            exec .accountRead s = .next ((s.answeredOk r
              (num1 (match x.state with | .free => 0 | .opened => 1 | .suspended => 2)
                ++ num4 x.budget ++ num4 x.spent ++ num4 x.calls ++ yesNo x.atLimit
                ++ num1 (allLines.filter (fun n => decide (∃ c, s.outCall n = some c ∧ c.account = id))
                    ).length)).finish s.disp.flags))))
  ∧ (∀ (s : State) (r : LinkRecord) (id : Fin 64) (b : Nat), Takes s .accountSetBudget r → b < 4294967296 →
    r.body = num1 id.val ++ num4 b → (s.charge.accounts.get id).state ≠ .free →
    let x := s.charge.accounts.get id
    let reached : Prop := b ≠ 0 ∧ b ≤ x.spent
    let put (limit : Bool) : State := { s with
      link := s.link.take
      charge := { s.charge with
        accounts := s.charge.accounts.set id.val { x with budget := b, atLimit := limit } id.isLt } }
    let calls := (allLines.filter (fun n =>
      decide (∃ m, s.charge.meters.get n = some m ∧ m.account = id))).length
    (¬ reached →
      exec .accountSetBudget s = .next ((((put false).reevaluateHeld id).replyOk r []).finish s.disp.flags))
    ∧ (reached → x.atLimit = true →
        exec .accountSetBudget s = .next ((((put true).reevaluateHeld id).replyOk r []).finish s.disp.flags))
    ∧ (reached → x.atLimit = false →
        exec .accountSetBudget s = .next ((((((put true).stage
          (.accountLimit id.val x.spent b calls)).reportLimit id).reevaluateHeld id).replyOk r []).finish
            s.disp.flags)))

/-- R79, R172: the budget gate passes for an OPEN account whose budget is 0 or covers spent, connect and pulse of the
class in the band in force; a re-evaluation makes PENDING the account's HELD_ACCOUNT destinations that pass it by their
routes' classes, leaves every other destination, and asks for a pass. -/
def Obligations.BudgetGate : Prop :=
  ∀ (s : State) (a : Fin 64),
    let x := s.charge.accounts.get a
    let open_ (cls : Fin 8) : Prop :=
      x.state = .opened ∧ (x.budget = 0
        ∨ x.spent + (s.charge.entry cls s.charge.band).connect + (s.charge.entry cls s.charge.band).pulse
            ≤ x.budget)
    (∀ cls, s.gate a cls = true ↔ open_ cls)
    ∧ ∃ jobs : List Job,
        s.reevaluateHeld a = { s with
          jobs := { s.jobs with jobs := jobs }, disp := { s.disp with passRequest := true } }
        ∧ jobs.length = s.jobs.jobs.length
        ∧ ∀ (k : Nat) (j j' : Job), s.jobs.jobs[k]? = some j → jobs[k]? = some j' →
            (j.account ≠ a → j' = j)
            ∧ (j.account = a →
                j' = { j with dests := j'.dests } ∧ j'.dests.length = j.dests.length
                ∧ ∀ (i : Nat) (d d' : Dest), j.dests[i]? = some d → j'.dests[i]? = some d' →
                    ((d.state = .heldAccount ∧ ∃ t, d.route = some t ∧ open_ t.cls) →
                      d' = { d with state := .pending })
                    ∧ (¬ (d.state = .heldAccount ∧ ∃ t, d.route = some t ∧ open_ t.cls) → d' = d))

/-! ## Send jobs (04) -/

/-- R64, R65: JOB OPEN, its tests in their order; on OK the job joins the table with its values clamped, its release
tested against the flags, one new destination for each dial string, and the submission number; a pass is asked for. -/
def Obligations.JobOpen : Prop :=
  ∀ (s : State) (r : LinkRecord) (id acct prio mode mask gate limit base wait : Nat)
      (dials : List (List Byte)), Takes s .jobOpen r →
    id < 65536 → acct < 256 → prio < 256 → mode < 256 → mask < 65536 → gate < 2 → limit < 256 → base < 65536 →
    wait < 256 → dials.length < 256 → (∀ d ∈ dials, d.length < 256) →
    r.body = num2 id ++ num1 acct ++ num1 prio ++ num1 mode ++ num2 mask ++ num1 gate ++ num1 limit
      ++ num2 base ++ num1 wait ++ num1 dials.length ++ dials.flatMap text →
    let refused (c : RefusalCode) : Prop :=
      exec .jobOpen s = .next ((s.refusedWith r c).finish s.disp.flags)
    let dialled (d : List Byte) : Prop := 1 ≤ d.length ∧ d.length ≤ 24
      ∧ ∀ c ∈ d, (48 ≤ c.toNat ∧ c.toNat ≤ 57) ∨ c = 42#8 ∨ c = 35#8 ∨ c = 44#8
    let inRange : Prop := id ≠ 0 ∧ acct ≤ 63 ∧ prio ≤ 3 ∧ mode ≤ 3 ∧ 1 ≤ limit ∧ limit ≤ 15
      ∧ ∀ d ∈ dials, dialled d
    (dials = [] ∨ 48 < dials.length → refused .badFormat)
    ∧ (1 ≤ dials.length → dials.length ≤ 48 →
        (¬ inRange → refused .badValue)
        ∧ (inRange → (∃ j ∈ s.jobs.jobs, j.id = id) → refused .duplicate)
        ∧ (inRange → (∀ j ∈ s.jobs.jobs, j.id ≠ id) → ∀ a : Fin 64, a.val = acct →
            ((s.charge.accounts.get a).state = .free → refused .noSuch)
            ∧ ((s.charge.accounts.get a).state ≠ .free →
                let free := 256 - (s.jobs.jobs.map (fun j => j.dests.length)).sum
                (32 ≤ s.jobs.jobs.length ∨ free < dials.length → refused .full)
                ∧ (s.jobs.jobs.length < 32 → dials.length ≤ free →
                    ∀ (p : Priority) (m : ReleaseMode), prio = p.code → mode = m.code →
                      let set_ := BitVec.ofNat 16 mask
                      let released := match m with
                        | .always => true | .held => false
                        | .whenAll => decide (s.disp.flags &&& set_ = set_)
                        | .whenNotAll => decide (s.disp.flags &&& set_ ≠ set_)
                      let clamped (lo hi n : Nat) : Nat := if n < lo then lo else if hi < n then hi else n
                      let j : Job :=
                        { id := id, account := a, priority := p, mode := m, mask := set_
                          gateNotice := gate == 1, retryLimit := limit
                          retryBase := clamped 10 3600 base, pageWait := clamped 5 120 wait
                          state := .opened, cancelling := none, released := released
                          submission := s.jobs.submission, pages := []
                          dests := dials.map (fun d =>
                            ⟨d, .pending, 0, none, 0, none, none, none, none, 0⟩) }
                      exec .jobOpen s = .next (State.finish
                        { s.answeredOk r (num4 s.jobs.submission ++ num2 j.retryBase ++ num1 j.pageWait
                            ++ yesNo released) with
                          jobs := ⟨s.jobs.jobs ++ [j], (s.jobs.submission + 1) % 4294967296⟩
                          disp := { s.disp with passRequest := true } } s.disp.flags)))))

/-- R66, R84, R85: DEST ADD appends new destinations whole or not at all and asks for a pass; JOB REMOVE takes a DONE or
CANCELLED job out of the table; JOB QUERY changes nothing. Their tests stand in their order: a DEST ADD of no dial string
or of more than 48 is refused with BAD_FORMAT, one with a dial string that fails the test of R64 with BAD_VALUE. The reply to JOB QUERY
carries the fields of R61 in order, the length of the page list and, for a job in OPEN or CLOSED, its page ids, then the
number of destinations shown and each of them from the first index on, up to 16, with the fields of R62 in order, its
next attempt time as the milliseconds still to wait (R78); an absent field is a byte 0, one that is present a byte 1 and
its value (R209). The places of those bytes, and that the page ids have no presence byte, are log entry 25, the numbers of
states and modes log entry 23. That the gate notice is a yes-or-no byte, on 1 and off 0, is the model's choice (log entry
20): read as a named set, from R61's list on, off, it would be the other way round. -/
def Obligations.DestAddJobRemoveJobQuery : Prop :=
  ∀ (s : State) (r : LinkRecord) (id : Nat), id < 65536 →
    let refused (c : Instr) (e : RefusalCode) : Prop :=
      exec c s = .next ((s.refusedWith r e).finish s.disp.flags)
    let live (j : Job) : Prop := j.state = .opened ∨ j.state = .closed
    (∀ dials : List (List Byte), Takes s .destAdd r → dials.length < 256 → (∀ d ∈ dials, d.length < 256) →
      r.body = num2 id ++ num1 dials.length ++ dials.flatMap text →
      let dialled (d : List Byte) : Prop := 1 ≤ d.length ∧ d.length ≤ 24
        ∧ ∀ c ∈ d, (48 ≤ c.toNat ∧ c.toNat ≤ 57) ∨ c = 42#8 ∨ c = 35#8 ∨ c = 44#8
      (dials = [] ∨ 48 < dials.length → refused .destAdd .badFormat)
      ∧ (1 ≤ dials.length → dials.length ≤ 48 →
        (¬ (∀ d ∈ dials, dialled d) → refused .destAdd .badValue)
        ∧ ((∀ d ∈ dials, dialled d) →
          (s.findJob id = none → refused .destAdd .noSuch)
          ∧ (∀ j, s.findJob id = some j →
            (¬ live j ∨ j.cancelling ≠ none → refused .destAdd .state)
            ∧ (live j → j.cancelling = none →
              let free := 256 - (s.jobs.jobs.map (fun k => k.dests.length)).sum
              (48 < j.dests.length + dials.length ∨ free < dials.length → refused .destAdd .full)
              ∧ (j.dests.length + dials.length ≤ 48 → dials.length ≤ free →
                  exec .destAdd s = .next (State.finish
                    { s.answeredOk r (num1 j.dests.length) with
                      jobs := { s.jobs with jobs := s.jobs.jobs.map (fun k =>
                        if k.id = id then { j with dests := j.dests ++ dials.map (fun d =>
                          ⟨d, .pending, 0, none, 0, none, none, none, none, 0⟩) } else k) }
                      disp := { s.disp with passRequest := true } } s.disp.flags)))))))
    ∧ (Takes s .jobRemove r → r.body = num2 id →
        (s.findJob id = none → refused .jobRemove .noSuch)
        ∧ (∀ j, s.findJob id = some j →
            (live j → refused .jobRemove .state)
            ∧ (¬ live j → exec .jobRemove s = .next (State.finish { s.answeredOk r [] with
                jobs := { s.jobs with jobs := s.jobs.jobs.filter (fun k => decide (k.id ≠ id)) } }
                s.disp.flags))))
    ∧ (∀ first, Takes s .jobQuery r → first < 256 → r.body = num2 id ++ num1 first →
        (s.findJob id = none → refused .jobQuery .noSuch)
        ∧ (∀ j, s.findJob id = some j →
            (j.dests.length ≤ first → refused .jobQuery .badValue)
            ∧ (first < j.dests.length →
                let yes (b : Bool) : List Byte := if b then [1#8] else [0#8]
                let optional (x : Option (List Byte)) : List Byte :=
                  match x with | none => [0#8] | some v => 1#8 :: v
                let shown (p : Dest × Nat) : List Byte :=
                  let d := p.1
                  num1 p.2 ++ num1 d.dial.length ++ d.dial
                  ++ num1 (match d.state with
                      | .pending => 0 | .waitingRetry => 1 | .heldAccount => 2 | .bound => 3 | .done => 4
                      | .failed => 5 | .cancelled => 6)
                  ++ num1 d.attempts
                  ++ optional (d.nextAttempt.map (fun x =>
                      num4 (match x with | .waits t => t - s.timebase | .come => 0)))
                  ++ num1 d.delivered
                  ++ optional (d.lastOutcome.map (fun o => num1 o.code))
                  ++ optional (d.route.map (fun x =>
                      num1 x.digits.length ++ x.digits ++ num1 x.cls.val ++ num1 x.mask.toNat))
                  ++ optional (d.line.map (fun n => num1 n.val))
                  ++ optional (d.tag.map (fun x => num1 x.length ++ x))
                  ++ num4 d.charged
                let dests := (j.dests.zipIdx.drop first).take 16
                exec .jobQuery s = .next ((s.answeredOk r
                  (num2 id ++ num1 j.account.val
                    ++ num1 (match j.priority with | .flash => 0 | .urgent => 1 | .routine => 2 | .bulk => 3)
                    ++ num1 (match j.mode with
                        | .always => 0 | .held => 1 | .whenAll => 2 | .whenNotAll => 3)
                    ++ num2 j.mask.toNat ++ yes j.gateNotice ++ num1 j.retryLimit ++ num2 j.retryBase
                    ++ num1 j.pageWait
                    ++ num1 (match j.state with | .opened => 0 | .closed => 1 | .done => 2 | .cancelled => 3)
                    ++ optional (j.cancelling.map (fun x =>
                        num1 (match x with | .afterPage => 0 | .now => 1)))
                    ++ yes j.released ++ num4 j.submission ++ num1 j.pages.length
                    ++ (if j.state = .opened ∨ j.state = .closed then j.pages.flatMap num1 else [])
                    ++ num1 dests.length ++ dests.flatMap shown)).finish s.disp.flags))))

/-- R67, R69, R80, R81: PAGE ATTACH, JOB CLOSE and JOB CANCEL, their tests in their order. The page joins the end of the
list with its JOB holder (a COMPLETE page asks for a pass), and the lines that carry a destination of the job are told; a
close makes DONE every waiting destination that has delivered the whole list, the lines are told, and the job is tested
for completion; a cancel makes every waiting destination CANCELLED, its strength in force goes to every line that carries
a destination (NOW stays in force once given), and the job is tested for its end. With no line carrying a destination
and none BOUND the cancelled job becomes CANCELLED in the event (R83). What the lines told then do stands in
JobTellsItsLines, what settles a job in JobSettles; that the counts of the reply are taken at the event's end is log entry
28, and the order of the lines log entry 11. -/
def Obligations.PageAttachJobCloseJobCancel : Prop :=
  ∀ (s : State) (r : LinkRecord) (id : Nat), id < 65536 →
    let refused (c : Instr) (e : RefusalCode) : Prop :=
      exec c s = .next ((s.refusedWith r e).finish s.disp.flags)
    let live (j : Job) : Prop := j.state = .opened ∨ j.state = .closed
    let idle : Prop := ∀ n c, s.outCall n = some c → c.job ≠ id
    let taken : State := { s with link := s.link.take }
    let put (u : State) (j : Job) : State := { u with jobs := { u.jobs with
      jobs := u.jobs.jobs.map (fun k => if k.id = id then j else k) } }
    (∀ page, Takes s .pageAttach r → page < 256 → r.body = num2 id ++ num1 page →
      (s.findJob id = none → refused .pageAttach .noSuch)
      ∧ (∀ j, s.findJob id = some j →
          (j.state ≠ .opened ∨ j.cancelling ≠ none → refused .pageAttach .state)
          ∧ (j.state = .opened → j.cancelling = none →
              (s.findPage page = none → refused .pageAttach .noSuch)
              ∧ (∀ p, s.findPage page = some p →
                  (p.source = .received → refused .pageAttach .state)
                  ∧ (p.source ≠ .received → page ∈ j.pages → refused .pageAttach .duplicate)
                  ∧ (p.source ≠ .received → page ∉ j.pages → 64 ≤ j.pages.length →
                      refused .pageAttach .full)
                  ∧ (p.source ≠ .received → page ∉ j.pages → j.pages.length < 64 →
                      let u : State := { put taken { j with pages := j.pages ++ [page] } with
                        store := if Holder.job id ∈ p.holders then s.store
                          else { s.store with pages := s.store.pages.map (fun q =>
                            if q.id = page then { p with holders := p.holders ++ [.job id] } else q) }
                        disp := if p.state = .complete then { s.disp with passRequest := true } else s.disp }
                      exec .pageAttach s = .next
                        (((u.tellJob id).replyOk r (num1 j.pages.length)).finish s.disp.flags))))))
    ∧ (Takes s .jobClose r → r.body = num2 id →
        (s.findJob id = none → refused .jobClose .noSuch)
        ∧ (∀ j, s.findJob id = some j →
            (j.state ≠ .opened ∨ j.cancelling ≠ none → refused .jobClose .state)
            ∧ (j.state = .opened → j.cancelling = none →
                let done (d : Dest) : Dest :=
                  if (d.state = .pending ∨ d.state = .waitingRetry ∨ d.state = .heldAccount)
                      ∧ d.delivered = j.pages.length
                  then { d with state := .done, lastOutcome := some .done, nextAttempt := none } else d
                let v := put taken { j with state := .closed, dests := j.dests.map done }
                exec .jobClose s = .next ((((v.tellJob id).settleJob id).replyOk r
                  (num1 j.pages.length)).finish s.disp.flags))))
    ∧ (∀ strength, Takes s .jobCancel r → strength < 256 → r.body = num2 id ++ num1 strength →
        (s.findJob id = none → refused .jobCancel .noSuch)
        ∧ (∀ j, s.findJob id = some j →
            (¬ live j → refused .jobCancel .state)
            ∧ (live j → 1 < strength → refused .jobCancel .badValue)
            ∧ (live j → ∀ st : Strength, strength = (match st with | .afterPage => 0 | .now => 1) →
                let gone (d : Dest) : Dest :=
                  if d.state = .pending ∨ d.state = .waitingRetry ∨ d.state = .heldAccount
                  then { d with state := .cancelled, lastOutcome := some .cancelled, nextAttempt := none }
                  else d
                let force : Strength := if j.cancelling = some .now then .now else st
                let v : Job := { j with cancelling := some force, dests := j.dests.map gone }
                let count (k : Job) (x : DestState) : Nat :=
                  (k.dests.filter (fun d => decide (d.state = x))).length
                let u := ((put taken v).cancelLines id force).settleJob id
                let after (x : DestState) : Nat := match u.findJob id with | some k => count k x | none => 0
                exec .jobCancel s = .next ((u.replyOk r
                  (num1 (after .cancelled - count j .cancelled) ++ num1 (after .bound))).finish s.disp.flags)
                ∧ (idle → (∀ d ∈ j.dests, d.state ≠ .bound) →
                    exec .jobCancel s = .next ((((put taken v).finishJob v .cancelled
                      ).replyOk r (num1 (j.dests.filter (fun d => decide (d.state = .pending
                          ∨ d.state = .waitingRetry ∨ d.state = .heldAccount))).length ++ num1 0)).finish
                        s.disp.flags)))))

/-- R81 to R83: what settles a job: a job with cancelling becomes CANCELLED once none of its destinations is BOUND, a
CLOSED job with none pending becomes DONE once all are final; it then lets its JOB holder go from each page of its list
and queues JOB_DONE with its counts and the sum of what its destinations were charged. -/
def Obligations.JobSettles : Prop :=
  ∀ (s : State) (id : Nat) (j : Job), s.findJob id = some j →
    let final (d : Dest) : Prop := d.state = .done ∨ d.state = .failed ∨ d.state = .cancelled
    let count (x : DestState) : Nat := (j.dests.filter (fun d => decide (d.state = x))).length
    let ended (st : JobState) : State :=
      (j.pages.foldl (fun t p => t.dropHolder p (.job id))
        ({ s with jobs := { s.jobs with jobs := s.jobs.jobs.map (fun k =>
            if k.id = id then { j with state := st, cancelling := none } else k) } } : State)).stage
        (.jobDone id st (count .done) (count .failed) (count .cancelled)
          (min 4294967295 (j.dests.map (·.charged)).sum))
    ((j.state = .done ∨ j.state = .cancelled) → s.settleJob id = s)
    ∧ ((j.state = .opened ∨ j.state = .closed) → j.cancelling ≠ none →
        (count .bound = 0 → s.settleJob id = ended .cancelled)
        ∧ (count .bound ≠ 0 → s.settleJob id = s))
    ∧ (j.cancelling = none →
        (j.state = .closed → (∀ d ∈ j.dests, final d) → s.settleJob id = ended .done)
        ∧ (j.state = .opened → s.settleJob id = s)
        ∧ ((∃ d ∈ j.dests, ¬ final d) → s.settleJob id = s))

/-- R67, R69, R80, R81, R115, R152: what a job tells the lines that carry its destinations, lowest line first: a page
attached and a close have a line in PAGE_WAIT look at its next page again (what it then does stands in CallerPageEnds);
a cancel reaches every such line with the strength, which ends a call before SEND with CANCELLED, and a call in SEND at
once (NOW) or after its page. The order of the lines is log entry 11; that the BYE of NOW is sent in RETRAINING too is
log entry 15; that the discard of the frames not yet on the line is a request to the pump of its own, ahead of that BYE, is
the model's choice (log entry 36). -/
def Obligations.JobTellsItsLines : Prop :=
  ∀ (s : State) (j : Job) (st : Strength),
    let told (f : State → Line → State) (u : State) : State := allLines.foldl (fun t n =>
      match t.outCall n with
      | some c => if c.job = j.id then f t n else t
      | none => t) u
    s.tellJob j.id = told State.tellLine s
    ∧ s.cancelLines j.id st = told (fun t n => t.requestFinish n .cancelled (st == .now)) s
    ∧ ∀ (n : Line) (c : OutCall) (e : EndCause), s.outCall n = some c →
        ((s.chan n).state = .awaitAnswer ∨ (s.chan n).state = .seize → ∀ now,
          s.requestFinish n e now = s.hangUp n e.outcome)
        ∧ ((s.chan n).state = .dial → ∀ now,
            s.requestFinish n e now =
              (((s.stopTimer n .pumpDial).stopTimer n .pause).pump n .stopDialling).hangUp n e.outcome)
        ∧ ((s.chan n).state = .greet ∨ (s.chan n).state = .train → ∀ now,
            s.requestFinish n e now = (s.sendFrame n .bye).hangUp n e.outcome)
        ∧ ((s.chan n).state = .send →
            s.requestFinish n .cancelled true = ((s.pump n .discardFrames).sendFrame n .bye).hangUp n .cancelled)
        ∧ ((s.chan n).state = .send → c.phase ≠ some .pageWait →
            s.requestFinish n e false = s.setOut n { c with endAfter := some (c.endAfter.getD e) })
        ∧ ((s.chan n).state = .send → c.phase = some .pageWait →
            let why := c.endAfter.getD e
            s.requestFinish n e false =
              (((((s.setOut n { c with endAfter := some why }).stopTimer n .pageWait).stopTimer n .keepalive
                ).sendFrame n (.last (!c.pageBit))).sendFrame n .bye).hangUp n why.outcome)
/-! ## The page store, page intake and the scanner (01, 02, 03) -/

/-- R16, R17, R8: a holder dropped. An entry the page has not leaves everything; one of several goes alone; the last one
frees the page: its record becomes unused and its blocks go to the free list, the raised count clears STORE_LOW at the
high mark, and a waiting scan request is taken again (R4).
R3, R8: a grant takes one block off the free list, and a fall of the free count below the low mark sets STORE_LOW,
with its notice and its condition flag. A coder's request is granted while the free count exceeds the receive reserve, a
receiving line's while it exceeds zero. Which block is granted is left open (R2). The order in
which the lines hear that STORE_LOW is clear, lowest first, is log entry 11; that the request taken again may set the flag
in the event that cleared it is log entry 14.
R9, R146: a line told that STORE_LOW is clear: a callee that is holding its caller sends RESUME and holds no more; any
other line stays as it is. -/
def Obligations.StoreGivesAndTakesBlocks : Prop :=
  (∀ (s : State) (id : Nat) (h : Holder),
    (s.findPage id = none → s.dropHolder id h = s)
    ∧ ∀ p, s.findPage id = some p →
        (h ∉ p.holders → s.dropHolder id h = s)
        ∧ (h ∈ p.holders → p.holders.erase h ≠ [] →
            s.dropHolder id h = { s with store := { s.store with pages := s.store.pages.map (fun q =>
              if q.id = id then { p with holders := p.holders.erase h } else q) } })
        ∧ (h ∈ p.holders → p.holders.erase h = [] →
            let blocks := p.chain.map (·.block) ++ (p.pendingBurst.filterMap (fun e => e)).map (·.block)
            let store : Store := { s.store with
              pages := s.store.pages.filter (fun q => decide (q.id ≠ id)), freeList := blocks ++ s.store.freeList }
            let cleared : State := allLines.foldl State.resumeLine { s with
              store := { store with storeLow := false }
              staged := s.staged ++ [.storeOk store.freeList.length]
              disp := { s.disp with flags := s.disp.flags &&& 0xFFEF#16 } }
            let v : State := if s.store.storeLow = true ∧ s.settings.highMark ≤ store.freeList.length
              then cleared else { s with store := store }
            (blocks = [] → s.dropHolder id h = { s with store := store })
            ∧ (blocks ≠ [] → s.dropHolder id h = if s.store.scanWaiting then v.writeScanHeld else v)))
  ∧ (∀ s : State,
    (s.store.freeList.length ≤ s.settings.receiveReserve → s.coderGrant = none)
    ∧ (s.store.freeList = [] → s.receiveGrant = none)
    ∧ (s.settings.receiveReserve < s.store.freeList.length → s.coderGrant = s.receiveGrant)
    ∧ (s.store.freeList ≠ [] → ∃ (b : Nat) (rest : List Nat),
        (s.store.freeList.Nodup → (b :: rest).Perm s.store.freeList)
        ∧ rest.length + 1 = s.store.freeList.length
        ∧ (let u : State := { s with store := { s.store with freeList := rest, grants := s.store.grants + 1 } }
           (s.store.storeLow = true ∨ s.settings.lowMark ≤ rest.length → s.receiveGrant = some (b, u))
           ∧ (s.store.storeLow = false → rest.length < s.settings.lowMark →
              s.receiveGrant = some (b, { u with
                store := { u.store with storeLow := true }, staged := s.staged ++ [.storeLow rest.length]
                disp := { s.disp with flags := s.disp.flags ||| 0x0010#16 } })))))
  ∧ (∀ (s : State) (n : Line),
    (∀ c, (s.chan n).call = some (.incoming c) → c.holding = true →
      s.resumeLine n = { s with
        lines := s.lines.set n { s.chan n with call := some (.incoming { c with holding := false }) }
        outputs := s.outputs ++ [.pump n (.frame [10#8, 0#8, 0#8])] })
    ∧ ((∀ c, (s.chan n).call = some (.incoming c) → c.holding = false) → s.resumeLine n = s))

/-- R12, R32, R33: coded bits written at the end of a page are read back after the bits the page held; what was not
granted room comes back as it stands; every other page keeps its data. -/
def Obligations.WrittenBitsAreRead : Prop :=
  ∀ (s t : State) (id : Nat) (p : Page) (bits left : Bits),
    Memory.wf s.store.mem = true → StoreWhole s →
    (∀ q ∈ s.store.pages, ∀ e ∈ q.chain, e.used ≤ 2048) →
    s.findPage id = some p → State.writeChain (2 * bits.length + 1) s id bits = (t, left) →
    ∃ (q : Page) (taken : Bits),
      bits = taken ++ left
      ∧ t.findPage id = some q ∧ q = { p with chain := q.chain }
      ∧ t.pageBits q = s.pageBits p ++ taken
      ∧ (left ≠ [] → t.freeCount ≤ s.settings.receiveReserve)
      ∧ ∀ k, k ≠ id → t.findPage k = s.findPage k
          ∧ ∀ x, s.findPage k = some x → t.pageBits x = s.pageBits x

/-- R44: a line repaired is a valid run list of the page's width, its pixels are those of the runs that arrived, white
beyond their end, up to the width, and a valid line is left as it is. -/
def Obligations.RepairGivesAValidLine : Prop :=
  ∀ (w : Nat) (runs : List Nat), 1 ≤ w →
    (∃ first rest, repairLine w runs = first :: rest ∧ first ≤ w ∧ (∀ x ∈ rest, 1 ≤ x ∧ x ≤ w)
      ∧ (first :: rest).sum = w)
    ∧ runsToPixels (repairLine w runs) = (runsToPixels runs ++ List.replicate w false).take w
    ∧ (∀ first rest, runs = first :: rest → (∀ x ∈ rest, 1 ≤ x) → runs.sum = w → repairLine w runs = runs)

/-- R25, R26, R28 to R30, R36, R211: what an encoder codes, a decoder with the same reference reads back, whatever
follows it. The line is coded PLAIN under PLAIN_ONLY, as the page's first line, and where the refresh distance has run
out; else SAME where it equals its reference; else DELTA where that is shorter than PLAIN.
R34, R35, R37 to R39: at a line boundary none or one bit ends the page, FILL is skipped and SAME copies the reference. A
PLAIN or DELTA line is bad where a run overruns the width, where a long run symbol is 0 to 71 or 2,041 to 2,047, and
where the data ends inside it: the last good line stands in its place, concealed, and reading goes on after the symbol
at fault. The context counts the line as produced, and as concealed where it is, both saturating at 65,535; the line is
the next reference, and the last good line where it is not concealed. -/
def Obligations.DecodeOfEncode : Prop :=
  (∀ (form : Form) (e : Encoder) (w : Nat) (line lastGood : List Nat) (after : Bits),
    1 ≤ w → w ≤ 2040 → validRuns w line = true → validRuns w e.ref = true →
    let coded := (encodeLine form e line).1
    decodeBits w e.ref lastGood (coded ++ after) = some ⟨line, false, coded, after⟩
    ∧ (encodeLine form e line).2.ref = line ∧ (encodeLine form e line).2.first = false
    ∧ ((form = .plainOnly ∨ e.first = true ∨ e.k ≤ e.dist + 1) →
        coded.take 2 = [false, true] ∧ (encodeLine form e line).2.dist = 0)
    ∧ (form = .plainDelta → e.first = false → e.dist + 1 < e.k →
        (line = e.ref → coded = [false, false] ∧ (encodeLine form e line).2.dist = e.dist + 1)
        ∧ (line ≠ e.ref →
            let plain := plainBits line
            let delta := deltaBits (deltaLine line e.ref)
            (delta.length < plain.length → coded = delta ∧ (encodeLine form e line).2.dist = e.dist + 1)
            ∧ (plain.length ≤ delta.length → coded = plain ∧ (encodeLine form e line).2.dist = 0))))
  ∧ (∀ (w : Nat) (ref lastGood : List Nat) (after : Bits),
    (∀ b : Bool, decodeBits w ref lastGood [] = none ∧ decodeBits w ref lastGood [b] = none)
    ∧ decodeBits w ref lastGood (true :: true :: after) = decodeBits w ref lastGood after
    ∧ decodeBits w ref lastGood (false :: false :: after) = some ⟨ref, false, [false, false], after⟩
    ∧ (∀ (mark : Bits) (runs : List Nat), mark = [false, true] ∨ mark = [true, false] →
        runs.sum < w → w ≤ 2040 →
        let bad (bits rest : Bits) : Prop :=
          decodeBits w ref lastGood (mark ++ runs.flatMap runSymbol ++ bits) = some ⟨lastGood, true, [], rest⟩
        (∀ n, n ≤ 2040 → w < runs.sum + n → bad (runSymbol n ++ after) after)
        ∧ (∀ v, v < 72 ∨ (2041 ≤ v ∧ v ≤ 2047) → bad ([true, true] ++ natBits 11 v ++ after) after)
        ∧ (∀ n cut, n ≤ 2040 → cut <+: runSymbol n → cut ≠ runSymbol n → bad cut [])))
  ∧ (∀ (d : Decoder) (data : Bits),
    let read := decodeBits d.width d.ref d.lastGood (data.drop d.pos)
    (read = none → d.next data = none)
    ∧ (∀ l, read = some l → d.next data = some (l, { d with
        pos := data.length - l.rest.length, ref := l.runs
        lastGood := if l.concealed then d.lastGood else l.runs
        produced := min 65535 (d.produced + 1)
        concealed := min 65535 (d.concealed + (if l.concealed then 1 else 0)) })))

/-- R10, R11, R15, R51: PAGE OPEN, its tests in their order; on OK the lowest unused id, a page of source LINK in
CODING with its CODING holder, the link context on it with K latched for its resolution; no other page is touched.
R14, R18, R55, R56, R68: PAGE CLOSE completes a link page in CODING and PAGE ABORT spoils a page in CODING from either
door, their tests in their order. A page completed drops its CODING holder and asks for a pass, and the lines that wait
for it are told; a page spoiled leaves the list of every job that holds it, its context goes idle and the page is freed
with its CODING holder, the jobs that lost it go on by R68, and the waiting lines are told. The jobs in the order of
the table and the lines lowest first are log entry 11.
R68, R82: a job that lost a page goes on so: where it is CLOSED, each destination in PENDING, WAITING_RETRY or
HELD_ACCOUNT whose *delivered* is the length of the page list becomes DONE with last outcome DONE and no next attempt
time, and the job is settled (JobSettles); any other job stays as it is. -/
def Obligations.PageOpenCloseAbort : Prop :=
  (∀ (s : State) (r : LinkRecord) (w x : Nat), Takes s .pageOpen r → w < 65536 → x < 256 →
    r.body = num2 w ++ num1 x →
    let refused (c : RefusalCode) : Prop :=
      exec .pageOpen s = .next ((s.refusedWith r c).finish s.disp.flags)
    let widthOk : Prop := 256 ≤ w ∧ w ≤ 2040 ∧ w % 8 = 0
    let used (k : Nat) : Prop := ∃ p ∈ s.store.pages, p.id = k
    (s.linkCtx ≠ none → refused .state)
    ∧ (s.linkCtx = none →
        (1 < x ∨ ¬ widthOk → refused .badValue)
        ∧ (x ≤ 1 → widthOk → (∀ k, k < 128 → used k) → refused .full)
        ∧ (x ≤ 1 → widthOk → ∀ id, id < 128 → ¬ used id → (∀ k, k < id → used k) →
            let res : Resolution := if x = 0 then .coarse else .fine
            let k := if x = 0 then s.settings.refreshCoarse else s.settings.refreshFine
            ∃ u : State,
              exec .pageOpen s = .next (u.finish s.disp.flags)
              ∧ u.findPage id = some ⟨id, .link, .coding, w, res, 0, [], List.replicate 32 none, 0, [], none,
                  [.coding .link]⟩
              ∧ (∀ k, k ≠ id → u.findPage k = s.findPage k)
              ∧ u = { s.answeredOk r (num1 id) with
                  store := { s.store with pages := u.store.pages }
                  linkCtx := some ⟨id, w, res, ⟨k, [w], 0, true⟩, []⟩ })))
  ∧ (∀ (s : State) (r : LinkRecord) (id : Nat), id < 256 → r.body = num1 id →
    let taken : State := { s with link := s.link.take }
    let refused (c : Instr) (e : RefusalCode) : Prop :=
      exec c s = .next ((s.refusedWith r e).finish s.disp.flags)
    (Takes s .pageClose r →
      (s.findPage id = none → refused .pageClose .noSuch)
      ∧ (∀ p, s.findPage id = some p →
          (p.source ≠ .link ∨ p.state ≠ .coding → refused .pageClose .state)
          ∧ (p.source = .link → p.state = .coding →
              let u := State.completePage { taken with linkCtx := none } id .link
              exec .pageClose s = .next ((u.replyOk r (num2 p.lineCount
                ++ num4 (p.chain.map (·.used)).sum ++ num2 p.adjusted
                ++ yesNo (u.findPage id).isNone)).finish s.disp.flags))))
    ∧ (Takes s .pageAbort r →
        (s.findPage id = none → refused .pageAbort .noSuch)
        ∧ (∀ p, s.findPage id = some p →
            (p.state ≠ .coding → refused .pageAbort .state)
            ∧ (p.state = .coding →
                let lost := taken.spoilPage p
                let u : State := if p.source = .scan then
                    { lost.2 with scanner := { lost.2.scanner with port := .discarding } } else lost.2
                exec .pageAbort s = .next
                  ((u.replyOk r (num1 id ++ num1 lost.1)).finish s.disp.flags)))))
  ∧ (∀ (s : State) (id : Nat) (p : Page), s.findPage id = some p →
    let put (u : State) (p : Page) : State := { u with store := { u.store with
      pages := u.store.pages.map (fun q => if q.id = p.id then p else q) } }
    let told (u : State) : State := allLines.foldl State.tellLine u
    (∀ party : CodingParty,
      let v := (put s { p with state := .complete }).dropHolder id (.coding party)
      s.completePage id party = told { v with disp := { v.disp with passRequest := true } })
    ∧ (let party : CodingParty := if p.source = .scan then .scan else .link
      let jobs := s.jobs.jobs.filter (fun j =>
        decide ((j.state = .opened ∨ j.state = .closed) ∧ id ∈ j.pages))
      let v := put s { p with state := .spoiled }
      let v1 : State := if p.source = .scan then
          { v with scanCtx := none, store := { v.store with scanWaiting := false } }
        else { v with linkCtx := none }
      let v2 := jobs.foldl (fun t j =>
        (t.putJob { j with pages := j.pages.erase id }).dropHolder id (.job j.id)) v1
      let v3 := v2.dropHolder id (.coding party)
      s.spoilPage p = (jobs.length, told (jobs.foldl (fun t j => t.afterPageLoss j.id) v3))))
  ∧ (∀ (s : State) (id : Nat),
    (s.findJob id = none → s.afterPageLoss id = s)
    ∧ ∀ j, s.findJob id = some j →
        (j.state ≠ .closed → s.afterPageLoss id = s)
        ∧ (j.state = .closed →
            let ends (d : Dest) : Prop :=
              (d.state = .pending ∨ d.state = .waitingRetry ∨ d.state = .heldAccount)
              ∧ d.delivered = j.pages.length
            let dests := j.dests.map (fun d => if ends d then
              { d with state := .done, lastOutcome := some .done, nextAttempt := none } else d)
            s.afterPageLoss id = State.settleJob { s with jobs := { s.jobs with
              jobs := s.jobs.jobs.map (fun k => if k.id = id then { j with dests := dests } else k) } } id))

/-- R52 to R54, R57: RASTER LINE: refused by a notice, with the first reason that holds, and no reply; else repaired,
coded and written: the line counted where every block was granted, or the page spoiled with reason STORE_FULL. -/
def Obligations.RasterLine : Prop :=
  ∀ (s : State) (r : LinkRecord) (id : Nat) (runs : List Nat), AtHead s .rasterLine r →
    id < 256 → runs.length < 65536 → (∀ x ∈ runs, x < 65536) →
    r.body = num1 id ++ num2 runs.length ++ runs.flatMap num2 →
    let taken : State := { s with link := s.link.take }
    let refused (c : LineRefusal) : Prop := exec .rasterLine s = .next
      ((taken.stage (.lineRefused r.tag (BitVec.ofNat 8 id) c)).finish s.disp.flags)
    (s.loader.ready = false → refused .notReady)
    ∧ (s.loader.ready = true →
        (1020 < runs.length → refused .badFormat)
        ∧ (runs.length ≤ 1020 →
            (s.findPage id = none → refused .notOpen)
            ∧ (∀ p, s.findPage id = some p →
                (p.source ≠ .link → refused .notLink)
                ∧ (p.source = .link → p.state ≠ .coding → refused .notOpen)
                ∧ (p.source = .link → p.state = .coding → ∀ c, s.linkCtx = some c →
                    let line := repairLine c.width runs
                    let coded := encodeLine .plainDelta c.enc line
                    let bits := c.held ++ coded.1
                    let s1 := if line = runs then taken else taken.countAdjusted c.page
                    ∀ (t : State) (left : Bits),
                      State.writeChain (2 * bits.length + 1) s1 c.page bits = (t, left) →
                      (left = [] → exec .rasterLine s = .next
                        ((({ t with linkCtx := some { c with enc := coded.2, held := [] } } : State).countLine
                          c.page).finish s.disp.flags))
                      ∧ (left ≠ [] → ∀ q, t.findPage c.page = some q → exec .rasterLine s = .next
                          (((t.spoilPage q).2.stage (.pageSpoiled q.id q.source .storeFull q.lineCount
                            (t.spoilPage q).1 (some r.tag))).finish s.disp.flags))))))

/-- R12, R191: PAGE READ copies the used bytes of the blocks from the first position on, one item a block, into the
block-data queue, or refuses by the first test that fails; PAGE RELEASE drops the FORWARD holder. -/
def Obligations.PageReadAndPageRelease : Prop :=
  ∀ (s : State) (r : LinkRecord) (id : Nat), id < 256 →
    let refused (c : Instr) (e : RefusalCode) : Prop :=
      exec c s = .next ((s.refusedWith r e).finish s.disp.flags)
    (∀ first count, Takes s .pageRead r → first < 65536 → count < 256 →
      r.body = num1 id ++ num2 first ++ num1 count →
      (s.findPage id = none → refused .pageRead .noSuch)
      ∧ (∀ p, s.findPage id = some p →
          (Holder.forward ∉ p.holders → refused .pageRead .state)
          ∧ (Holder.forward ∈ p.holders →
              (count = 0 ∨ 32 < count ∨ (p.chain ≠ [] ∧ p.chain.length ≤ first) →
                refused .pageRead .badValue)
              ∧ (1 ≤ count → count ≤ 32 → (p.chain = [] ∨ first < p.chain.length) →
                  let n := min count (p.chain.length - first)
                  (32 < s.link.blocks.length + n → refused .pageRead .full)
                  ∧ (s.link.blocks.length + n ≤ 32 →
                      ∃ items : List BlockItem,
                        items.length = n
                        ∧ (∀ k x, items[k]? = some x → ∃ e, p.chain[first + k]? = some e
                            ∧ x.tag = r.tag ∧ x.page = id ∧ x.pos = first + k ∧ x.used = e.used
                            ∧ x.bytes.length = (e.used + 7) / 8
                            ∧ (unpackBytes x.bytes).take e.used
                                = Memory.blockBits s.store.mem e.block e.used)
                        ∧ exec .pageRead s = .next (State.finish
                            { s with link := { s.link.answered r (.ok (num1 n ++ num2 p.chain.length)) with
                              blocks := s.link.blocks ++ items } } s.disp.flags))))))
    ∧ (Takes s .pageRelease r → r.body = num1 id →
        (s.findPage id = none → refused .pageRelease .noSuch)
        ∧ (∀ p, s.findPage id = some p →
            (Holder.forward ∉ p.holders → refused .pageRelease .state)
            ∧ (Holder.forward ∈ p.holders →
                let u := State.dropHolder { s with link := s.link.take } id .forward
                exec .pageRelease s = .next
                  ((u.replyOk r (yesNo (u.findPage id).isNone)).finish s.disp.flags))))

/-- R45 to R50: the scanner's transfers and its jam. Under stall a transfer stays with the scanner. Else a page start
asks for a page, after the open one was given up as jammed in SCANNING: created, the port is SCANNING and SCAN_PAGE is
queued; refused, Refuse is given, the port is DISCARDING and SCAN_REFUSED is queued. A pixel line in SCANNING is fitted
to the page's width and coded; a page end in SCANNING completes the page with PAGE_COMPLETE. A jam in SCANNING spoils
the open page with its PAGE_SPOILED, and the port is DISCARDING; where a page start stayed with the scanner, it is taken
after the jam, and the notices of the spoiling join the queue before its own (the page's id is unused then, R57; log
entry 14). In the other states lines and ends are without effect but for the port. R48: a transfer that stayed with the scanner is
taken where stall is down, once; under stall it stays. R32, R33, R48: the scan context's held bits are written to its
page; where all were granted room the request waits no more and the line is counted, saturating at 65,535; else the
rest stays held and the request waits. Stall is asserted while the scan context has held bits (R48) and
until the part is ready (R58). -/
def Obligations.ScannerTransfers : Prop :=
  (∀ s : State,
    let stall : Prop := s.loader.ready = false ∨ ∃ c, s.scanCtx = some c ∧ c.held ≠ []
    let port (u : State) (x : PortState) : State := { u with scanner := { u.scanner with port := x } }
    let gives (c : Instr) (u : State) : Prop := exec c s = .next (u.finish s.disp.flags)
    let start (u : State) (w x : Nat) : State :=
      match Resolution.ofCode x with
      | none => ((port { u with outputs := u.outputs ++ [.refuse] } .discarding).stage (.scanRefused .badValue))
      | some res =>
        match u.createPage .scan w res 0 [] none .scan with
        | .error c => ((port { u with outputs := u.outputs ++ [.refuse] } .discarding).stage (.scanRefused c))
        | .ok (id, v) =>
          (port { v with scanCtx := some ⟨id, w, res,
            ⟨if res = .coarse then v.settings.refreshCoarse else v.settings.refreshFine, [w], 0, true⟩, []⟩ }
              .scanning).stage (.scanPage id w res)
    (stall →
      (∀ w x, gives (.scannerPageStart w x) { s with scanner := { s.scanner with presented := some (.pageStart w x) } })
      ∧ (∀ ps, gives (.scannerPixelLine ps) { s with scanner := { s.scanner with presented := some (.pixelLine ps) } })
      ∧ gives .scannerPageEnd { s with scanner := { s.scanner with presented := some .pageEnd } })
    ∧ (¬ stall →
        (∀ w x, gives (.scannerPageStart w x)
          (start (if s.scanner.port = .scanning then s.jamPage.flushNotices else s) w x))
        ∧ (∀ ps, (s.scanner.port ≠ .scanning → gives (.scannerPixelLine ps) s)
            ∧ (s.scanner.port = .scanning → ∀ c, s.scanCtx = some c →
                let fitted := ps.take c.width ++ List.replicate (c.width - ps.length) false
                let line := pixelsToRuns fitted
                let u := if ps.length = c.width then s else s.countAdjusted c.page
                let coded := encodeLine .plainDelta c.enc line
                gives (.scannerPixelLine ps)
                  (State.writeScanHeld { u with scanCtx := some { c with
                    enc := coded.2, held := c.held ++ coded.1 } })))
        ∧ (s.scanner.port = .idle → gives .scannerPageEnd s)
        ∧ (s.scanner.port = .discarding → gives .scannerPageEnd (port s .idle))
        ∧ (s.scanner.port = .scanning → ∀ c p, s.scanCtx = some c → s.findPage c.page = some p →
            let u := (port { s with scanCtx := none } .idle).completePage p.id .scan
            gives .scannerPageEnd (u.stage (.pageComplete p.id .scan p.lineCount (p.chain.map (·.used)).sum
              p.adjusted (u.findPage p.id).isNone))))
    ∧ (s.scanner.port = .idle → gives .scannerJam s)
    ∧ (s.scanner.port = .discarding → gives .scannerJam (port s .idle))
    ∧ (s.scanner.port = .scanning →
        ((∃ w x, s.scanner.presented = some (.pageStart w x)) →
          gives .scannerJam (port s.jamPage.flushNotices .discarding))
        ∧ ((∀ w x, s.scanner.presented ≠ some (.pageStart w x)) →
          gives .scannerJam (port s.jamPage .discarding)))
    ∧ (∀ c p, s.scanCtx = some c → s.findPage c.page = some p →
        s.jamPage = (s.spoilPage p).2.stage (.pageSpoiled p.id p.source .jam p.lineCount (s.spoilPage p).1 none)))
  ∧ (∀ s : State,
    let stall : Prop := s.loader.ready = false ∨ ∃ c, s.scanCtx = some c ∧ c.held ≠ []
    (s.scanner.presented = none → s.takePresented = s)
    ∧ (stall → s.takePresented = s)
    ∧ (¬ stall → ∀ t, s.scanner.presented = some t →
        s.takePresented = ({ s with scanner := { s.scanner with presented := none } } : State).takeTransfer t))
  ∧ (∀ s : State,
    (s.scanCtx = none → s.writeScanHeld = s)
    ∧ ∀ (c : Coding) (t : State) (left : Bits), s.scanCtx = some c →
        State.writeChain (2 * c.held.length + 1) s c.page c.held = (t, left) →
        let u (waits : Bool) : State := { t with
          scanCtx := some { c with held := left }, store := { t.store with scanWaiting := waits } }
        (left ≠ [] → s.writeScanHeld = u true)
        ∧ (left = [] → t.findPage c.page = none → s.writeScanHeld = u false)
        ∧ (left = [] → ∀ p, t.findPage c.page = some p →
            s.writeScanHeld = { u false with store := { (u false).store with
              pages := t.store.pages.map (fun q => if q.id = c.page
                then { p with lineCount := min 65535 (p.lineCount + 1) } else q) } }))

/-! ## Line channels and calls (06) -/

/-- R109: an event of the line interface or the pump that reaches a line in a state the table does not name for it
changes nothing; nor does an expiry command whose timer does not run (log entry 1), or a frame whose check is bad or
whose content lies outside its ranges (R130, R210).
R210: a frame handed to a pump opens with its kind, 1 to 16, and the length of its content in two bytes. The content
holds the fields of R130 in their order: the part's CAPS names PLAIN_DELTA, width 2,040, resolutions BOTH and minimum
line time 0 (R132); a rate stands in bit/s. -/
def Obligations.IgnoredOnTheLine : Prop :=
  (∀ f : Frame,
    let bit (b : Bool) : List Byte := [if b then 1#8 else 0#8]
    let form (x : Form) : List Byte := num1 (List.idxOf x [.plainOnly, .plainDelta])
    let rate (r : Rate) : List Byte :=
      num2 (2400 * (1 + List.idxOf r [.r2400, .r4800, .r7200, .r9600, .r12000, .r14400]))
    let tag (x : List Byte) : List Byte := num1 x.length ++ x
    let laid : Byte × List Byte :=
      match f with
      | .caps r t => (1, form .plainDelta ++ num2 2040 ++ num1 1 ++ rate r ++ num1 0 ++ tag t)
      | .terms x r t => (2, form x ++ rate r ++ tag t)
      | .accept => (3, [])
      | .decline => (4, [])
      | .retrain r => (5, rate r)
      | .pageHead w r x l => (6, num2 w ++ num1 (List.idxOf r [.coarse, .fine]) ++ form x ++ num2 l)
      | .block p data => (7, num1 p ++ data)
      | .check l b => (8, num1 l ++ bit b)
      | .tally m h b => (9, num4 m.toNat ++ num1 h ++ bit b)
      | .resume => (10, [])
      | .wait => (11, [])
      | .more b => (12, bit b)
      | .last b => (13, bit b)
      | .taken b => (14, bit b)
      | .reject => (15, [])
      | .bye => (16, [])
    f.bytes = [laid.1] ++ num2 laid.2.length ++ laid.2)
  ∧ ∀ (s : State) (n : Line),
    let st := (s.chan n).state
    let quiet (c : Instr) : Prop := exec c s = .next s
    (st ≠ .idle → st ≠ .ringIn → quiet (.ring n))
    ∧ (st ≠ .seize → quiet (.tone n))
    ∧ (st ≠ .dial → st ≠ .awaitAnswer → quiet (.busyTone n) ∧ quiet (.voice n))
    ∧ (st ≠ .dial ∨ (s.chan n).deadline .pumpDial = none → quiet (.dialDone n))
    ∧ (st ≠ .dial → st ≠ .awaitAnswer → st ≠ .answering → quiet (.answerTone n))
    ∧ (st ∈ [.outOfService, .idle, .ringIn, .clear] → quiet (.loopLost n))
    ∧ (st ∉ [.answering, .greet, .train, .send, .receive] → quiet (.carrierLost n))
    ∧ (st ≠ .train → st ≠ .send → st ≠ .receive → ∀ r, quiet (.trained n r))
    ∧ (∀ (t : Timer) (c : Instr), (s.chan n).deadline t = none →
        (t, c) ∈ [(.dialTone, .dialToneWaitExpiry n), (.pumpDial, .pumpDialWaitExpiry n),
          (.pause, .pauseWaitExpiry n), (.answer, .answerWaitExpiry n), (.caps, .capsWaitExpiry n),
          (.termsReply, .termsReplyWaitExpiry n), (.train, .trainWaitExpiry n),
          (.tally, .tallyWaitExpiry n), (.hold, .holdTimerExpiry n),
          (.keepalive, .waitKeepaliveExpiry n), (.pageWait, .pageWaitExpiry n),
          (.pageEndReply, .pageEndReplyWaitExpiry n), (.ringGap, .ringGapExpiry n),
          (.answerTone, .answerToneWaitExpiry n), (.silence, .calleeSilenceLimitExpiry n),
          (.lastPage, .lastPageWaitExpiry n), (.clearGuard, .clearGuardExpiry n),
          (.restartGuard, .restartGuardExpiry n)] → quiet c)
    ∧ (∀ (f : Line → Bool → List Byte → Instr) (content : List Byte),
        f ∈ [.caps, .terms, .accept, .decline, .retrain, .pageHead, .block, .check, .tally, .resume,
          .wait, .more, .last, .taken, .reject, .bye] →
        quiet (f n false content)
        ∧ (st ∉ [.greet, .train, .send, .receive] → quiet (f n true content)))
    ∧ (∀ content : List Byte,
        (content ≠ [] → ∀ f : Line → Bool → List Byte → Instr,
          f ∈ [.accept, .decline, .resume, .wait, .reject, .bye] → quiet (f n true content))
        ∧ (content ≠ [0#8] → content ≠ [1#8] → ∀ f : Line → Bool → List Byte → Instr,
          f ∈ [.more, .last, .taken] → quiet (f n true content))
        ∧ (content.length ≠ 2 → quiet (.check n true content) ∧ quiet (.retrain n true content))
        ∧ (content.length ≠ 6 → quiet (.tally n true content) ∧ quiet (.pageHead n true content))
        ∧ (content.length < 2 → quiet (.block n true content))
        ∧ (∀ a rest, content = a :: rest → 31 < a.toNat → quiet (.block n true content))
        ∧ (∀ a b, content = [a, b] → 31 < a.toNat ∨ 1 < b.toNat → quiet (.check n true content))
        ∧ (∀ a b, content = [a, b] → a.toNat * 256 + b.toNat ∉ [2400, 4800, 7200, 9600, 12000, 14400] →
            quiet (.retrain n true content)))

/-- R112: dialling. TONE in SEIZE begins at dial position 0, DIAL_DONE goes on where the run handed ended, and the
expiry of the pause wait goes on past the one pause: at a pause the pause wait of 2 s starts; at another character the
run up to the next pause is handed and the pump dial wait of 20 s starts; past the last character the line enters
AWAIT_ANSWER and the answer wait of 45 s starts (R113). That the expiry's command moves the time on to the end of the
wait is log entry 1. -/
def Obligations.Dialling : Prop :=
  ∀ (s : State) (n : Line) (c : OutCall), s.outCall n = some c →
    let stepAt (u : State) (ch : Channel) (pos : Nat) : State :=
      match c.route.digits.drop pos with
      | [] => { u with lines := u.lines.set n (({ ch with
          state := .awaitAnswer, call := some (.outgoing { c with dialPos := none }) } : Channel).start
            .answer (u.timebase + 45000)) }
      | d :: ds =>
        if d = 44#8 then { u with lines := u.lines.set n (({ ch with
          call := some (.outgoing { c with dialPos := some pos }) } : Channel).start .pause
            (u.timebase + 2000)) }
        else
          let run := (d :: ds).takeWhile (fun x => x != 44#8)
          { u with
            outputs := u.outputs ++ [.pump n (.dial run)]
            lines := u.lines.set n (({ ch with
              call := some (.outgoing { c with dialPos := some (pos + run.length) }) } : Channel).start
                .pumpDial (u.timebase + 20000)) }
    ((s.chan n).state = .seize →
      exec (.tone n) s = .next
        ((stepAt s { (s.chan n).stop .dialTone with state := .dial } 0).finish s.disp.flags))
    ∧ (∀ pos d, (s.chan n).state = .dial → c.dialPos = some pos → (s.chan n).deadline .pumpDial = some d →
        exec (.dialDone n) s = .next
          ((stepAt s ((s.chan n).stop .pumpDial) pos).finish s.disp.flags))
    ∧ (∀ pos d, c.dialPos = some pos → (s.chan n).deadline .pause = some d →
        exec (.pauseWaitExpiry n) s = .next
          ((stepAt (s.advanceTo d) ((s.chan n).stop .pause) (pos + 1)).finish s.disp.flags))

/-- R121, R122, with R16, R103, R163 and R174: the end of an outgoing call: on-hook, and stop or reset to the pump; the
channel empty in CLEAR with its guard of 2 s; the line's SENDING holder dropped; for an answered call its ticket queued
and the destination's *charged* raised by the total, for an unanswered one the slot released and a pass requested; and
the outcome reported (CallEndReport). Each event that ends a call before its pages are done reports the outcome of
R122. That an expiry's command moves the time on to its timer's end is log entry 1; that the BYE of a REJECT is sent in
RETRAINING too is log entry 15.
R75: a total is added to the *charged* of its destination alone, up to 4,294,967,295. -/
def Obligations.OutgoingCallEnds : Prop :=
  (∀ (s : State) (job i total : Nat),
    (s.findJob job = none → s.addCharged job i total = s)
    ∧ ∀ j, s.findJob job = some j →
        (j.dests[i]? = none → s.addCharged job i total = s)
        ∧ ∀ d, j.dests[i]? = some d →
            let dests := j.dests.set i { d with charged := min 4294967295 (d.charged + total) }
            s.addCharged job i total = { s with jobs := { s.jobs with
              jobs := s.jobs.jobs.map (fun k => if k.id = job then { j with dests := dests } else k) } })
  ∧ ∀ (s : State) (n : Line) (c : OutCall), s.outCall n = some c →
    (∀ (o : CallOutcome) (p : PumpRequest),
      let cleared : State := { s with
        outputs := s.outputs ++ [.onHook n, .pump n p]
        lines := s.lines.set n ⟨.clear, none, none, none, [(.clearGuard, s.timebase + 2000)]⟩ }
      let dropped : State := match (s.chan n).recoder with
        | some r => cleared.dropHolder r.page (.sending n)
        | none => cleared
      (s.charge.meters.get n = none →
        s.endOutgoing n o p = ({ dropped with
          charge := { dropped.charge with slots := dropped.charge.slots - 1 }
          disp := { dropped.disp with passRequest := true } } : State).reportCallEnd c.job c.dest o)
      ∧ (∀ m, s.charge.meters.get n = some m →
          s.endOutgoing n o p = ((({ dropped with
            charge := { dropped.charge with
              meters := dropped.charge.meters.set n none
              tickets := dropped.charge.tickets ++ [
                { account := m.account, job := m.job, dest := m.dest, line := n, cls := m.cls
                  band := m.band, answerDay := m.answerDay, answerMs := m.answerMs
                  duration := s.timebase - m.t0, pulses := m.pulses, total := m.total, outcome := o
                  digits := m.digits }] } } : State).addCharged m.job m.dest m.total).reportCallEnd
              c.job c.dest o)))
    ∧ (let st := (s.chan n).state
      let ends (u : State) (i : Instr) (o : CallOutcome) : Prop :=
        exec i s = .next ((u.endOutgoing n o .stop).finish s.disp.flags)
      let expires (t : Timer) (i : Instr) (o : CallOutcome) (p : PumpRequest) : Prop :=
        ∀ d, (s.chan n).deadline t = some d →
          exec i s = .next ((((s.advanceTo d).stopTimer n t).endOutgoing n o p).finish s.disp.flags)
      let hushed : State := { s with
        outputs := s.outputs ++ [.pump n .stopDialling]
        lines := s.lines.set n (((s.chan n).stop .pumpDial).stop .pause) }
      expires .dialTone (.dialToneWaitExpiry n) .noTone .stop
      ∧ expires .pumpDial (.pumpDialWaitExpiry n) .noTone .reset
      ∧ expires .answer (.answerWaitExpiry n) .noAnswer .stop
      ∧ expires .caps (.capsWaitExpiry n) .remoteGone .stop
      ∧ expires .termsReply (.termsReplyWaitExpiry n) .remoteGone .stop
      ∧ expires .train (.trainWaitExpiry n) .remoteGone .stop
      ∧ (st = .dial → ends hushed (.busyTone n) .busy ∧ ends hushed (.voice n) .notFax)
      ∧ (st = .awaitAnswer → ends s (.busyTone n) .busy ∧ ends s (.voice n) .notFax)
      ∧ (st = .seize ∨ st = .dial → ends s (.loopLost n) .noTone)
      ∧ (st = .awaitAnswer → ends s (.loopLost n) .noAnswer)
      ∧ (st = .greet ∨ st = .train ∨ st = .send →
          ends s (.loopLost n) .remoteGone ∧ ends s (.carrierLost n) .remoteGone)
      ∧ (st = .greet → (s.chan n).deadline .termsReply ≠ none → ends s (.decline n true []) .declined)
      ∧ (st = .send → c.phase ≠ some .pageWait →
          exec (.reject n true []) s = .next (((s.sendFrame n .bye).endOutgoing n .pageRejected .stop
            ).finish s.disp.flags)))

/-- R74 to R77: the report of a call's end. The destination's line becomes absent and its last outcome the one
reported. With a cancel pending it becomes CANCELLED; with every page of a CLOSED job delivered it becomes DONE; else
the outcome has its effect. A retryable outcome adds one to *attempts*: at the retry limit the destination is FAILED,
else the LFSR takes one step, b15 ⊕ b13 ⊕ b12 ⊕ b10 entering at b0, and the destination waits the retry base × (1 + r),
r the low k bits after the step, k the lesser of *attempts* and the backoff cap. The job is then settled (JobSettles). -/
def Obligations.CallEndReport : Prop :=
  ∀ (s : State) (id i : Nat) (j : Job) (d : Dest) (o : CallOutcome),
    s.findJob id = some j → j.dests[i]? = some d →
    let put (u : State) (x : Dest) : State := { u with jobs := { u.jobs with
      jobs := u.jobs.jobs.map (fun k => if k.id = id then { j with dests := j.dests.set i x } else k) } }
    let ends (u : State) : Prop := s.reportCallEnd id i o = u.settleJob id
    let base : Dest := { d with line := none, lastOutcome := some o }
    let complete : Prop := j.state = .closed ∧ d.delivered = j.pages.length
    (j.cancelling ≠ none → ends (put s { base with state := .cancelled, lastOutcome := some .cancelled }))
    ∧ (j.cancelling = none → complete →
        ends (put s { base with state := .done, lastOutcome := some .done }))
    ∧ (j.cancelling = none → ¬ complete →
        (o = .notFax ∨ o = .noRoute ∨ o = .barred → ends (put s { base with state := .failed }))
        ∧ (o = .accountHeld → ends (put s { base with state := .heldAccount }))
        ∧ (o = .cancelled → ends (put s { base with state := .cancelled }))
        ∧ (o = .done → ends (put s { base with state := .done }))
        ∧ (o ∈ [.noTone, .busy, .noAnswer, .linePoor, .remoteGone, .heldTooLong, .declined, .pageRejected,
              .partSent, .lineReset] →
            (j.retryLimit ≤ d.attempts + 1 →
              ends (put s { base with attempts := d.attempts + 1, state := .failed }))
            ∧ (d.attempts + 1 < j.retryLimit →
                let x := s.disp.lfsr
                let next : BitVec 16 := (x <<< 1) ||| (BitVec.zeroExtend 16 (BitVec.ofBool
                  ((x.getLsbD 15 ^^ x.getLsbD 13) ^^ x.getLsbD 12 ^^ x.getLsbD 10)))
                let r := next.toNat % 2 ^ (min (d.attempts + 1) s.settings.backoffCap)
                ends (put { s with disp := { s.disp with lfsr := next } }
                  { base with
                    attempts := d.attempts + 1, state := .waitingRetry
                    nextAttempt := some (.waits (s.timebase + j.retryBase * 1000 * (1 + r))) }))))

/-- R117 to R120: an incoming call, from its first ring to its end. A RING counts, saturating at 255, restarts the ring
gap of 6 s and clears LINEn_FREE; it is answered where the count has reached a nonzero rings to answer, the line is
in service and not SEND, the free count is at or above the answer floor and fewer than 128 page records are in use. The
end of the ring gap returns the line to IDLE with a pass requested. The pump's ANSWER_TONE brings CAPS with the line's
rate ceiling and the station tag, and the silence limit of 10 s (R132). The loss of the caller, BYE and the last-page
wait end the call: on-hook, stop, CLEAR with its guard, and the page RECEIVING ends INCOMPLETE (R19). That an expiry's
command moves the time on to its timer's end is log entry 1. -/
def Obligations.IncomingCall : Prop :=
  ∀ (s : State) (n : Line),
    let e := s.lineEntry n
    let st := (s.chan n).state
    let flagged (u : State) (v : Bool) : State := { u with disp := { u.disp with
      flags := if v then u.disp.flags ||| (1#16 <<< (8 + n.val))
        else u.disp.flags &&& ~~~(1#16 <<< (8 + n.val)) } }
    let answers (k : Nat) : Prop := 1 ≤ e.rings ∧ e.rings ≤ k ∧ e.mode ≠ .send ∧ e.inService = true
      ∧ s.settings.answerFloor ≤ s.store.freeList.length ∧ s.store.pages.length < 128
    let counted (u : State) (k : Nat) : State :=
      let ch : Channel := { s.chan n with state := .ringIn, rings := some k }
      { u with lines := u.lines.set n (ch.start .ringGap (s.timebase + 6000)) }
    let answered (u : State) : State := { u with
      outputs := s.outputs ++ [.offHook n, .pump n .answer]
      lines := u.lines.set n ⟨.answering, none, some (.incoming ⟨none, none, none, none, false, none, none,
        false, false, none⟩), none, [(.answerTone, s.timebase + 5000)]⟩ }
    let rung (u : State) (k : Nat) : Prop :=
      (answers k → exec (.ring n) s = .next ((answered u).finish s.disp.flags))
      ∧ (¬ answers k → exec (.ring n) s = .next ((counted u k).finish s.disp.flags))
    (st = .idle → rung (flagged s false) 1)
    ∧ (∀ k, st = .ringIn → (s.chan n).rings = some k → k ≤ 255 → rung s (min 255 (k + 1)))
    ∧ (∀ d, (s.chan n).deadline .ringGap = some d →
        let u := s.advanceTo d
        exec (.ringGapExpiry n) s = .next (State.finish
          { flagged { u with lines := u.lines.set n ⟨.idle, none, none, none, []⟩ } true with
            disp := { (flagged u true).disp with passRequest := true } } s.disp.flags))
    ∧ (∀ c, s.inCall n = some c →
        let ends (u : State) : State :=
          let cleared : State := { u with
            outputs := u.outputs ++ [.onHook n, .pump n .stop]
            lines := u.lines.set n ⟨.clear, none, none, none, [(.clearGuard, u.timebase + 2000)]⟩ }
          match c.page with
          | some id => cleared.endReceived n id .incomplete
          | none => cleared
        let expires (t : Timer) (i : Instr) : Prop :=
          ∀ d, (s.chan n).deadline t = some d →
            exec i s = .next ((ends (s.advanceTo d)).finish s.disp.flags)
        (st = .answering →
          exec (.answerTone n) s = .next (State.finish
            { s with
              outputs := s.outputs ++ [.pump n (.frame (Frame.bytes (.caps e.ceiling s.settings.stationTag)))]
              lines := s.lines.set n (({ (s.chan n).stop .answerTone with
                state := .greet, call := some (.incoming { c with offered := some e.ceiling }) }
                : Channel).start .silence (s.timebase + 10000)) } s.disp.flags))
        ∧ expires .answerTone (.answerToneWaitExpiry n)
        ∧ expires .silence (.calleeSilenceLimitExpiry n)
        ∧ expires .train (.trainWaitExpiry n)
        ∧ expires .lastPage (.lastPageWaitExpiry n)
        ∧ (st ∈ [.answering, .greet, .train, .receive] →
            exec (.loopLost n) s = .next ((ends s).finish s.disp.flags)
            ∧ exec (.carrierLost n) s = .next ((ends s).finish s.disp.flags))
        ∧ (st ∈ [.greet, .train, .receive] →
            exec (.bye n true []) s = .next ((ends s).finish s.disp.flags)))

/-- R124 to R127: the line control records. A line number above 3 is refused. LINE STOP takes a line in IDLE or RING_IN
out of service at once and marks a busy one; LINE START returns a stopped line to IDLE, or withdraws a pending stop;
LINE RESET ends what the line is doing, its call with LINE_RESET, and leaves it free or stopped. The notice and the
reply say what came of it; no other line is touched. -/
def Obligations.LineControl : Prop :=
  ∀ (s : State) (r : LinkRecord) (k : Nat), k < 256 → r.body = num1 k →
    (3 < k →
      (Takes s .lineStop r → exec .lineStop s = .next ((s.refusedWith r .badValue).finish s.disp.flags))
      ∧ (Takes s .lineStart r → exec .lineStart s = .next ((s.refusedWith r .badValue).finish s.disp.flags))
      ∧ (Takes s .lineReset r → exec .lineReset s = .next ((s.refusedWith r .badValue).finish s.disp.flags)))
    ∧ (∀ n : Line, n.val = k →
        let st := (s.chan n).state
        let e := s.lineEntry n
        let entered (u : State) (x : ChanState) : State := { u with lines := u.lines.set n ⟨x, none, none, none, []⟩ }
        let service (u : State) (a b : Bool) : State :=
          let table := u.disp.lineTable.set n { u.lineEntry n with inService := a, stopPending := b }
          { u with disp := { u.disp with lineTable := table } }
        let free (u : State) : State := { u with disp := { u.disp with
          flags := u.disp.flags ||| (1#16 <<< (8 + n.val)), passRequest := true } }
        let notFree (u : State) : State := { u with disp := { u.disp with
          flags := u.disp.flags &&& ~~~(1#16 <<< (8 + n.val)) } }
        let told (u : State) (x : ChanState) (c : LineCause) (ended : Bool) : State :=
          { u with staged := u.staged ++ [.lineState n x c ended] }
        let reset (u : State) : State := { u with outputs := u.outputs ++ [.pump n .reset] }
        let done (u : State) (i : Instr) : Prop := exec i s = .next (u.finish s.disp.flags)
        (Takes s .lineStop r →
          (st = .idle ∨ st = .ringIn →
            done (told (notFree (service (entered (s.answeredOk r [0#8]) .outOfService) false false))
              .outOfService .stop false) .lineStop)
          ∧ (st = .outOfService → done (s.answeredOk r [0#8]) .lineStop)
          ∧ (st ∉ [.idle, .ringIn, .outOfService] →
              done (service (s.answeredOk r [1#8]) e.inService true) .lineStop))
        ∧ (Takes s .lineStart r →
            (st = .outOfService →
              done (told (free (service (entered (reset (s.answeredOk r [0#8])) .idle) true false)) .idle .start
                false) .lineStart)
            ∧ (st ≠ .outOfService → e.stopPending = true →
                done (service (s.answeredOk r [1#8]) e.inService false) .lineStart)
            ∧ (st ≠ .outOfService → e.stopPending = false → done (s.answeredOk r [2#8]) .lineStart))
        ∧ (Takes s .lineReset r →
            let ended := (s.chan n).call.isSome
            let taken : State := { s with link := s.link.take }
            let cleared : State := match (s.chan n).call with
              | some (.outgoing _) => taken.endOutgoing n .lineReset .reset
              | some (.incoming _) => reset (taken.endIncoming n)
              | none => reset taken
            (st = .idle ∨ st = .outOfService →
              done ((told (reset taken) st .reset ended).replyOk r (num1 st.code ++ yesNo ended)) .lineReset)
            ∧ (st ∉ [.idle, .outOfService] → e.stopPending = true →
                done ((told (notFree (service (entered cleared .outOfService) false false)) .outOfService .reset
                  ended).replyOk r ([0#8] ++ yesNo ended)) .lineReset)
            ∧ (st ∉ [.idle, .outOfService] → e.stopPending = false →
                done ((told (free (service (entered cleared .idle) true false)) .idle .reset ended).replyOk r
                  ([1#8] ++ yesNo ended)) .lineReset)))

/-- R123, R129, R78, R157, R99: what comes with time. The CLEAR guard ends in IDLE with LINEn_FREE set and a pass
requested, or, with *stop pending*, OUT_OF_SERVICE with its notice; the guard of a RESTART ends in IDLE for a line in
service of a ready part and changes nothing else; a next attempt time that arrives requests a pass, once, and the
destination stays WAITING_RETRY with its time come; at a slot boundary the band in force is found again: while CLOCK_SET
is clear the default band, else the band of the schedule.
R154, R157: the coming of a time ahead, which each expiry's command brings (log entry 1), moves the timebase and the clock;
where a half-hour boundary stands at the moment left or comes before that time, the band is found again as it stands in
the last millisecond before that time, with its flags; a boundary at that time itself is an event of its own. -/
def Obligations.GuardsAndTimes : Prop :=
  ∀ s : State,
    (∀ (n : Line) (d : Nat),
      let u := s.advanceTo d
      let e := s.lineEntry n
      let idle (ch : Channel) : State := { u with
        lines := u.lines.set n ch
        disp := { u.disp with flags := u.disp.flags ||| (1#16 <<< (8 + n.val)), passRequest := true } }
      ((s.chan n).deadline .clearGuard = some d →
        (e.stopPending = false →
          exec (.clearGuardExpiry n) s = .next ((idle ⟨.idle, none, none, none, []⟩).finish s.disp.flags))
        ∧ (e.stopPending = true →
            let table := s.disp.lineTable.set n { e with inService := false, stopPending := false }
            exec (.clearGuardExpiry n) s = .next (State.finish { u with
              lines := u.lines.set n ⟨.outOfService, none, none, none, []⟩
              disp := { u.disp with lineTable := table }
              staged := u.staged ++ [.lineState n .outOfService .stop false] } s.disp.flags)))
      ∧ ((s.chan n).deadline .restartGuard = some d →
          let ch := (s.chan n).stop .restartGuard
          let goes : Prop := s.loader.ready = true ∧ ch.state = .outOfService ∧ e.inService = true
          (goes → exec (.restartGuardExpiry n) s = .next ((idle { ch with state := .idle }).finish s.disp.flags))
          ∧ (¬ goes → exec (.restartGuardExpiry n) s = .next
              (State.finish { u with lines := u.lines.set n ch } s.disp.flags))))
    ∧ (∀ (id i d : Nat) (j : Job) (x : Dest), s.findJob id = some j → j.dests[i]? = some x →
        (x.state = .waitingRetry → x.nextAttempt = some (.waits d) →
          let u := s.advanceTo d
          let j' : Job := { j with dests := j.dests.set i { x with nextAttempt := some .come } }
          exec (.nextAttemptTime id i) s = .next (State.finish { u with
            jobs := { s.jobs with jobs := s.jobs.jobs.map (fun k => if k.id = id then j' else k) }
            disp := { u.disp with passRequest := true } } s.disp.flags))
        ∧ (x.state ≠ .waitingRetry ∨ x.nextAttempt = none ∨ x.nextAttempt = some .come →
            exec (.nextAttemptTime id i) s = .next s))
    ∧ (let past := s.charge.clock.ms % 1800000
      let u := if past = 0 then s else s.advanceTo (s.timebase + (1800000 - past))
      ∀ slot : Fin 144,
        slot.val = u.charge.clock.ms / 1800000
          + 48 * (if u.charge.clock.day = 0 ∨ s.flag 15 = true then 2 else if u.charge.clock.day = 6 then 1 else 0) →
        let band := if s.flag 7 = true then s.charge.schedule.get slot else s.settings.defaultBand
        exec .slotBoundary s = .next (State.finish { u with
          charge := { u.charge with band := band }
          disp := { u.disp with flags := if band = s.charge.band then s.disp.flags
            else (s.disp.flags &&& 0xFFF0#16) ||| (1#16 <<< band.val) } } s.disp.flags))
    ∧ (let band (slot : Fin 144) : Fin 4 :=
        if s.flag 7 = true then s.charge.schedule.get slot else s.settings.defaultBand
      let names (clock : Clock) (slot : Fin 144) : Prop := slot.val = clock.ms / 1800000
        + 48 * (if clock.day = 0 ∨ s.flag 15 = true then 2 else if clock.day = 6 then 1 else 0)
      (∀ slot, names s.charge.clock slot → s.findBand = band slot)
      ∧ ∀ t : Nat,
        let clock (x : Nat) : Clock :=
          let ms := (s.charge.clock.day * 86400000 + s.charge.clock.ms + (x - s.timebase)) % 604800000
          ⟨ms / 86400000, ms % 86400000⟩
        let past := s.charge.clock.ms % 1800000
        let passes : Prop := past = 0 ∨ 1800000 < past + (t - s.timebase)
        (t ≤ s.timebase → s.advanceTo t = s)
        ∧ (s.timebase < t → ¬ passes → s.advanceTo t =
            { s with timebase := t, charge := { s.charge with clock := clock t } })
        ∧ (s.timebase < t → passes → s.charge.clock.day ≤ 6 → s.charge.clock.ms ≤ 86399999 →
            ∀ slot, names (clock (t - 1)) slot →
              let b := band slot
              s.advanceTo t = { s with
                timebase := t, charge := { s.charge with clock := clock t, band := b }
                disp := { s.disp with flags := if b = s.charge.band then s.disp.flags
                  else (s.disp.flags &&& 0xFFF0#16) ||| (1#16 <<< b.val) } }))

/-! ## Dispatch and charging (05, 08) -/

/-- R99 to R105: the dispatch pass. With a request standing and the part ready the request goes and the candidates take
their turns in dispatch order: jobs by priority, submission number and id, destinations by index; their notices join
the queue in that order (R205 as log entry 14 reads it), those of STORE_LOW and STORE_OK with the free count after the
event, in which a transfer that stayed with the scanner may still be taken (R8, R48). A candidate is PENDING, or WAITING_RETRY with its time come,
in an OPEN or CLOSED job with no cancel pending and *released* yes, with a COMPLETE page at list position *delivered*.
At its turn a candidate with no route or a barred one is FAILED; one whose account fails the gate is HELD_ACCOUNT; one
that finds a ticket slot free and a line that fits is bound to the lowest such line (R104, R111); any other keeps its
state, its route recorded. -/
def Obligations.DispatchPass : Prop :=
  (∀ s : State,
    (¬ (s.disp.passRequest = true ∧ s.loader.ready = true) → exec .dispatchPass s = .next s)
    ∧ (s.disp.passRequest = true → s.loader.ready = true →
        let able (j : Job) : Bool :=
          (j.state == .opened || j.state == .closed) && j.cancelling == none && j.released
        let due (d : Dest) : Bool := d.state == .pending || (d.state == .waitingRetry
          && (match d.nextAttempt with | some (.waits t) => decide (t ≤ s.timebase) | _ => true))
        let present (j : Job) (d : Dest) : Bool :=
          match j.pages[d.delivered]? with
          | some id => (match s.findPage id with | some p => p.state == .complete | none => false)
          | none => false
        ∃ js : List Job,
          js.Perm (s.jobs.jobs.filter able)
          ∧ js.Pairwise (fun a b => a.priority.code < b.priority.code
              ∨ (a.priority.code = b.priority.code ∧ (a.submission < b.submission
                ∨ (a.submission = b.submission ∧ a.id ≤ b.id))))
          ∧ exec .dispatchPass s = .next (((js.flatMap (fun j =>
                (j.dests.zipIdx.filter (fun p => due p.1 && present j p.1)).map (fun p => (j.id, p.2)))).foldl
              State.turn { s with disp := { s.disp with passRequest := false } }).queueStaged.finish
                s.disp.flags)))
  ∧ (∀ s : State,
    let ns := s.staged.map (Notice.withFree s.takePresented.store.freeList.length)
    s.queueStaged = { s with
      staged := []
      link := { s.link with
        notices := s.link.notices ++ (ns.take (64 - s.link.notices.length)).map (fun n => ⟨s.link.intake, n⟩)
        lost := s.link.lost || decide (64 - s.link.notices.length < ns.length) } })
  ∧ (∀ (s : State) (j : Job) (i : Nat) (d : Dest), s.findJob j.id = some j → j.dests[i]? = some d →
      let put (u : State) (x : Dest) : State := { u with jobs := { u.jobs with
        jobs := u.jobs.jobs.map (fun k => if k.id = j.id then { j with dests := j.dests.set i x } else k) } }
      let decided (st : DestState) (o : CallOutcome) (r : Option Route) : State :=
        (put s { d with state := st, lastOutcome := some o, route := r, nextAttempt := none }).settleJob j.id
      let spare (n : Line) : Bool := (s.chan n).state == .idle && (s.lineEntry n).inService
        && (s.lineEntry n).mode != .send
      (lookup s.disp.plan d.dial = .noRoute → s.turn (j.id, i) = decided .failed .noRoute none)
      ∧ (∀ r, lookup s.disp.plan d.dial = .barred r → s.turn (j.id, i) = decided .failed .barred (some r))
      ∧ (∀ r, lookup s.disp.plan d.dial = .route r →
          let fits (n : Line) : Prop := (s.chan n).state = .idle ∧ (s.lineEntry n).inService = true
            ∧ (s.lineEntry n).mode ≠ .receive ∧ r.mask.getLsbD n.val = true
            ∧ (j.priority = .flash
              ∨ s.settings.lineReserve ≤ (allLines.filter (fun k => k != n && spare k)).length)
          (s.gate j.account r.cls = false →
            s.turn (j.id, i) = decided .heldAccount .accountHeld (some r))
          ∧ (s.gate j.account r.cls = true →
              (32 ≤ s.charge.slots ∨ (∀ n, ¬ fits n) → s.turn (j.id, i) = put s { d with route := some r })
              ∧ (∀ n, s.charge.slots < 32 → fits n → (∀ k, k < n → ¬ fits k) →
                  let call : OutCall :=
                    { job := j.id, dest := i, route := r, account := j.account, answered := false
                      dialPos := none, rate := none, tag := none, ceiling := none, retraining := false
                      caps := none, form := none, phase := none, burst := [], missing := 0, rounds := 0
                      burstBit := false, pageBit := false, pageEnd := none, holdTotal := 0
                      endAfter := none, retrainCause := none, termsSent := false, resends := 0
                      holdStart := 0, anyBurst := false, anyPage := false }
                  let ch : Channel :=
                    ⟨.seize, none, some (.outgoing call), none, [(.dialTone, s.timebase + 3000)]⟩
                  s.turn (j.id, i) =
                    { put s { d with state := .bound, line := some n, route := some r, nextAttempt := none } with
                      charge := { s.charge with slots := s.charge.slots + 1 }
                      lines := s.lines.set n ch
                      outputs := s.outputs ++ [.offHook n]
                      disp := { s.disp with
                        flags := s.disp.flags &&& ~~~(1#16 <<< (8 + n.val)) } }))))

/-- R113, R161, R162, R166, R167: charging. The ANSWER_TONE of a remote fax station stops the dialling, makes the call
answered in GREET with the CAPS wait of 8 s, makes its meter with the connect charge and the first pulse of its class in
the band in force, posts that charge and counts the call. An expiry of the pulse timer charges the pulse of the class
in the band then in force and sets the next expiry by that entry's period. After each posting the limit is tested: with
the budget nonzero and reached, *at limit* becomes yes with its notice where it was no, and every answered call of the
account is told to finish. That the lines are told lowest first is log entry 11; that the expiry's command moves the
time on, and has no effect with no pulse timer running, is log entry 1; that the pulse count and the total have no bound
is log entry 29. -/
def Obligations.CallsAreCharged : Prop :=
  ∀ (s : State) (n : Line),
    let posted (u : State) (a : Fin 64) (charge calls : Nat) : State :=
      let x := u.charge.accounts.get a
      let y : Account :=
        { x with spent := min 4294967295 (x.spent + charge), calls := min 4294967295 (x.calls + calls) }
      { u with charge := { u.charge with accounts := u.charge.accounts.set a.val y a.isLt } }
    let tested (u : State) (a : Fin 64) : State :=
      let x := u.charge.accounts.get a
      let tell (v : State) : State := allLines.foldl (fun t k =>
        match t.charge.meters.get k with
        | some m => if m.account = a then t.requestFinish k .accountHeld false else t
        | none => t) v
      if x.budget ≠ 0 ∧ x.budget ≤ x.spent then
        if x.atLimit then tell u
        else
          let marked := u.charge.accounts.set a.val { x with atLimit := true } a.isLt
          tell { u with
            charge := { u.charge with accounts := marked }
            staged := u.staged ++ [.accountLimit a.val x.spent x.budget (allLines.filter (fun k =>
              decide (∃ m, u.charge.meters.get k = some m ∧ m.account = a))).length] }
      else u
    (∀ c, s.outCall n = some c → (s.chan n).state = .dial ∨ (s.chan n).state = .awaitAnswer →
      let e := s.charge.entry c.route.cls s.charge.band
      let ch : Channel :=
        if (s.chan n).state = .dial then (((s.chan n).stop .pumpDial).stop .pause).stop .answer
        else (s.chan n).stop .answer
      let meter : Meter :=
        { job := c.job, dest := c.dest, account := c.account, digits := c.route.digits, cls := c.route.cls
          band := s.charge.band, answerDay := s.charge.clock.day, answerMs := s.charge.clock.ms
          t0 := s.timebase, pulses := 1, total := e.connect + e.pulse
          nextExpiry := s.timebase + e.period * 100 }
      let greeting : Channel :=
        { ch with state := .greet, call := some (.outgoing { c with answered := true, dialPos := none }) }
      let u : State := { s with
        outputs := s.outputs ++ (if (s.chan n).state = .dial then [.pump n .stopDialling] else [])
        lines := s.lines.set n (greeting.start .caps (s.timebase + 8000))
        charge := { s.charge with meters := s.charge.meters.set n (some meter) } }
      exec (.answerTone n) s = .next
        ((tested (posted u c.account (e.connect + e.pulse) 1) c.account).finish s.disp.flags))
    ∧ (∀ m, s.charge.meters.get n = some m →
        (s.charge.accounts.get m.account).calls ≤ 4294967295 →
        let u := s.advanceTo m.nextExpiry
        let e := u.charge.entry m.cls u.charge.band
        let next : Meter := { m with
          pulses := m.pulses + 1, total := m.total + e.pulse, nextExpiry := m.nextExpiry + e.period * 100 }
        exec (.pulseTimerExpiry n) s = .next
          ((tested (posted { u with charge := { u.charge with meters := u.charge.meters.set n (some next) } }
            m.account e.pulse 0) m.account).finish s.disp.flags))
    ∧ (s.charge.meters.get n = none → exec (.pulseTimerExpiry n) s = .next s)

/-! ## The line procedure (07) -/

/-- R133 to R135: greeting and training. The caller's first CAPS is kept, with the tag in the destination's record, the
call form and the agreed ceiling, the lesser of the line's and the remote's; TERMS goes out with a reply wait of 6 s,
and the same again for a CAPS after it, with the station tag as it then stands (log entry 15). ACCEPT has the pump
train under the agreed ceiling. The callee takes TERMS at or below what it offered with ACCEPT, and any other with
DECLINE and the end of the call. TRAINED sets the rate, at most the ceiling: the caller opens its page in SEND, the
callee waits for a page head in RECEIVE. -/
def Obligations.GreetingAndTraining : Prop :=
  ∀ (s : State) (n : Line),
    let st := (s.chan n).state
    let least (a b : Rate) : Rate := if Rate.bps a ≤ Rate.bps b then a else b
    let tagged (t : List Byte) : Prop := t.length ≤ 20 ∧ ∀ c ∈ t, 32 ≤ c.toNat ∧ c.toNat ≤ 126
    let line (u : State) (ch : Channel) (f : List PumpRequest) : State := { u with
      lines := u.lines.set n ch, outputs := u.outputs ++ f.map (.pump n) }
    (∀ c, s.outCall n = some c →
      let terms (f : Form) (r : Rate) : PumpRequest := .frame (Frame.bytes (.terms f r s.settings.stationTag))
      (∀ (form : Form) (w t : Nat) (coarse : Bool) (r : Rate) (tag : List Byte), st = .greet →
        256 ≤ w → w ≤ 2040 → w % 8 = 0 → t ∈ [0, 5, 10, 20, 40] → tagged tag →
        let content := num1 form.code ++ num2 w ++ num1 (if coarse then 0 else 1) ++ num2 (Rate.bps r) ++ num1 t
          ++ text tag
        (c.termsSent = false → ∀ (j : Job) (d : Dest), s.findDest c.job c.dest = some (j, d) →
          let ceiling := least (s.lineEntry n).ceiling r
          let kept : OutCall := { c with
            caps := some ⟨form, w, coarse, r, t⟩, tag := some tag, form := some form, ceiling := some ceiling
            termsSent := true }
          let ch : Channel := { (s.chan n).stop .caps with call := some (.outgoing kept) }
          let j' : Job := { j with dests := j.dests.set c.dest { d with tag := some tag } }
          exec (.caps n true content) s = .next (State.finish
            (line { s with jobs := { s.jobs with
                jobs := s.jobs.jobs.map (fun k => if k.id = j.id then j' else k) } }
              (ch.start .termsReply (s.timebase + 6000)) [terms form ceiling]) s.disp.flags))
        ∧ (∀ (f : Form) (x : Rate), c.termsSent = true → c.form = some f → c.ceiling = some x →
            exec (.caps n true content) s = .next (State.finish
              (line s ((s.chan n).start .termsReply (s.timebase + 6000)) [terms f x]) s.disp.flags)))
      ∧ (∀ x, st = .greet → (s.chan n).deadline .termsReply ≠ none → c.ceiling = some x →
          let ch : Channel := { (s.chan n).stop .termsReply with state := .train }
          exec (.accept n true []) s = .next (State.finish
            (line s (ch.start .train (s.timebase + 15000)) [.train x]) s.disp.flags))
      ∧ (∀ (x r : Rate) (j : Job) (d : Dest) (p : Page), st = .train → c.ceiling = some x →
          s.findDest c.job c.dest = some (j, d) → j.pages[d.delivered]? = some p.id →
          s.findPage p.id = some p → p.state = .complete →
          let c' : OutCall := { c with rate := some (least r x) }
          let ch : Channel := { (s.chan n).stop .train with state := .send, call := some (.outgoing c') }
          exec (.trained n r) s = .next (((line s ch []).openPage n c' p).finish s.disp.flags)))
    ∧ (∀ c, s.inCall n = some c →
        (∀ (form : Form) (r offered : Rate) (tag : List Byte), st = .greet → tagged tag →
          c.offered = some offered →
          let content := num1 form.code ++ num2 (Rate.bps r) ++ text tag
          (Rate.bps r ≤ Rate.bps offered →
            let ch : Channel := { (s.chan n).stop .silence with
              state := .train, call := some (.incoming { c with tag := some tag, ceiling := some r }) }
            exec (.terms n true content) s = .next (State.finish
              (line s (ch.start .train (s.timebase + 15000)) [.frame (Frame.bytes .accept), .train r])
                s.disp.flags))
          ∧ (Rate.bps offered < Rate.bps r →
              exec (.terms n true content) s = .next
                (((s.sendFrame n .decline).endIncoming n).finish s.disp.flags)))
        ∧ (∀ x r : Rate, st = .train → c.ceiling = some x →
            let ch : Channel := { (s.chan n).stop .train with
              state := .receive
              call := some (.incoming { c with rate := some (least r x), phase := some .awaitHead }) }
            exec (.trained n r) s = .next (State.finish
              (line s (ch.start .silence (s.timebase + 10000)) []) s.disp.flags)))

/-- R136, R43: a page opened: PAGE HEAD with what is sent, the lesser of the widths, COARSE for a FINE page of a remote
that takes COARSE only, half the lines then, rounded up; the SENDING holder; a Recoder in recode mode where the form is
PLAIN_ONLY, the width is cut or the resolution changes, else in copy mode; the page bit 0 first and then turned (R147);
and the first burst. -/
def Obligations.PageOpening : Prop :=
  ∀ (s : State) (n : Line) (c : OutCall) (p : Page) (caps : Caps) (form : Form),
    c.caps = some caps → c.form = some form →
    let w := min p.width caps.maxWidth
    let res : Resolution := if caps.coarseOnly = true ∧ p.res = .fine then .coarse else p.res
    let lines := if res = p.res then p.lineCount else (p.lineCount + 1) / 2
    let mode : RecMode := if form = .plainOnly ∨ w < p.width ∨ res ≠ p.res then .recode else .copy
    let k := if res = .coarse then s.settings.refreshCoarse else s.settings.refreshFine
    let c' : OutCall := { c with pageBit := if c.anyPage then !c.pageBit else false, anyPage := true }
    let r : Recoder :=
      { page := p.id, mode := mode, dec := ⟨p.id, p.width, 0, [p.width], [p.width], 0, 0⟩
        enc := ⟨k, [w], 0, true⟩, form := form, cropTo := w, merge := decide (res ≠ p.res)
        minTime := caps.minTime, carry := [] }
    let ch : Channel := { s.chan n with call := some (.outgoing c'), recoder := some r }
    let u : State := { s with
      outputs := s.outputs ++ [.pump n (.frame (Frame.bytes (.pageHead w res form lines)))]
      lines := s.lines.set n ch }
    s.openPage n c p = (u.addHolder p.id (.sending n)).nextBurst n c' r

/-- R41, R42, R137 to R141, R147: the next burst of a page. With stream data left the burst is cut into blocks of 256
bytes, the last of them completed with one bits to a whole byte, and sent: BLOCK frames from position 0 up, a CHECK
with the last position and the burst bit, turned from the burst before; the TALLY wait is 6 s and the time the data
takes at the rate in force, rounded up. A resend sends the positions the last tally listed. With none left the page end
is sent: LAST where *end after page* is present or the page stands last in the list of a CLOSED job, else MORE. A line
shorter than the remote's minimum is padded with FILL symbols before its line head. A burst's stream is what the last
one left and then the lines of the Recoder, each padded at the rate in force, until it is full or the page has ended;
what falls past its end is left for the next. In copy mode the Recoder hands on a good line as it was read and a
concealed one as its PLAIN coding; in recode mode it codes the line afresh under the call form against the line it sent
before: the decoded line cut at the width sent or, with FINE lines merged, the pair of them, a pixel black where either
is, the last of an odd number alone. -/
def Obligations.BurstAndPageEnd : Prop :=
  (∀ (s : State) (n : Line) (c : OutCall) (r : Recoder) (p : Page) (rate : Rate),
    s.findPage r.page = some p → c.rate = some rate →
    let bits := (r.burst rate (s.pageBits p)).1
    let sent (x : OutCall) (t : Timer) (ms : Nat) (q : Recoder) (fs : List Frame) : State :=
      let ch : Channel := { s.chan n with recoder := some q, call := some (.outgoing x) }
      { s with
        outputs := s.outputs ++ fs.map (fun f => .pump n (.frame (Frame.bytes f)))
        lines := s.lines.set n (ch.start t (s.timebase + ms)) }
    let last : Prop := c.endAfter ≠ none
      ∨ ∃ j, s.findJob c.job = some j ∧ j.state = .closed ∧ j.pages.getLast? = some r.page
    let next := (r.burst rate (s.pageBits p)).2
    let ended (e : PageEndSent) : OutCall := { c with
      burst := [], missing := 0, rounds := 0, resends := 0, phase := some .ending, pageEnd := some e }
    let wait (blocks : List (List Byte)) : Nat :=
      6000 + ((blocks.map List.length).sum * 8 * 1000 + Rate.bps rate - 1) / Rate.bps rate
    (bits = [] → last → s.nextBurst n c r = sent (ended .last) .pageEndReply 6000 next [.last c.pageBit])
    ∧ (bits = [] → ¬ last → s.nextBurst n c r = sent (ended .more) .pageEndReply 6000 next [.more c.pageBit])
    ∧ (bits ≠ [] →
        let blocks := cutBlocks 32 bits
        let bit := if c.anyBurst then !c.burstBit else false
        s.nextBurst n c r =
          sent { c with
              burst := blocks, missing := 0, rounds := 0, resends := 0, phase := some .checking
              burstBit := bit, anyBurst := true } .tally (wait blocks) next
            (blocks.zipIdx.map (fun x => Frame.block x.2 x.1) ++ [.check (blocks.length - 1) bit]))
    ∧ ((s.chan n).recoder = some r →
        let chosen := c.burst.zipIdx.filter (fun x => c.missing.getLsbD x.2)
        s.resendMissing n c =
          sent { c with resends := 0, phase := some .checking } .tally (wait (chosen.map (·.1))) r
            (chosen.map (fun x => Frame.block x.2 x.1) ++ [.check (c.burst.length - 1) c.burstBit])))
  ∧ (∀ bits : Bits, bits ≠ [] → bits.length ≤ 65536 →
      let blocks := cutBlocks 32 bits
      blocks.length = (bits.length + 2047) / 2048
      ∧ (∀ (i : Nat) (b : List Byte), blocks[i]? = some b → i + 1 < blocks.length → b.length = 256)
      ∧ ∃ k, k < 8 ∧ unpackBytes blocks.flatten = bits ++ List.replicate k true)
  ∧ (∀ (m : Nat) (line : Bits),
      padLine m line = List.replicate (2 * ((m - line.length + 1) / 2)) true ++ line
      ∧ (padLine m line).length =
          if m ≤ line.length then line.length else if (m - line.length) % 2 = 0 then m else m + 1)
  ∧ (∀ (r : Recoder) (rate : Rate) (data : Bits),
      let m := r.minTime * Rate.bps rate / 1000
      (65536 ≤ r.carry.length →
        r.burst rate data = (r.carry.take 65536, { r with carry := r.carry.drop 65536 }))
      ∧ (r.carry.length < 65536 → r.nextLine data = none → r.burst rate data = (r.carry, { r with carry := [] }))
      ∧ (∀ line r', r.carry.length < 65536 → r.nextLine data = some (line, r') →
          r.burst rate data = ({ r' with carry := r.carry ++ padLine m line } : Recoder).burst rate data))
  ∧ (∀ (r : Recoder) (data : Bits),
      (r.dec.next data = none → r.nextLine data = none)
      ∧ (∀ l d, r.mode = .copy → r.dec.next data = some (l, d) →
          r.nextLine data = some (if l.concealed then plainBits l.runs else l.raw, { r with dec := d }))
      ∧ (∀ l d, r.mode = .recode → r.dec.next data = some (l, d) →
          let w := r.cropTo
          let sends (runs : List Nat) (x : Decoder) : Prop :=
            r.nextLine data = some ((encodeLine r.form r.enc runs).1,
              { r with dec := x, enc := (encodeLine r.form r.enc runs).2 })
          let shows (runs : List Nat) (pixels : List Bool) : Prop :=
            validRuns w runs = true ∧ runsToPixels runs = pixels
          1 ≤ w → w ≤ r.dec.width → validRuns r.dec.width l.runs = true →
          ∀ runs,
            (r.merge = false → shows runs ((runsToPixels l.runs).take w) → sends runs d)
            ∧ (r.merge = true → d.next data = none → shows runs ((runsToPixels l.runs).take w) → sends runs d)
            ∧ (∀ l2 d2, r.merge = true → d.next data = some (l2, d2) → validRuns r.dec.width l2.runs = true →
                shows runs (List.zipWith (· || ·) ((runsToPixels l.runs).take w) ((runsToPixels l2.runs).take w)) →
                sends runs d2)))

/-- R141, R142, R144 to R146, R110: a burst decided. A TALLY of the other burst bit, or outside CHECKING, has no
effect. One with an empty set completes the burst; one with positions listed raises the round count. Its action, at
once or at the end of a hold, is the next burst, the resend, or at the fourth round the step-down: RETRAIN at the next
lower rate, or BYE and LINE_POOR at 2,400 bit/s. With HOLD the caller is HELD, a WAIT going out every 5 s; RESUME or
the hold timer ends the hold, and past 60,000 ms held in the call BYE ends it with HELD_TOO_LONG. The TALLY wait's
expiry repeats the CHECK up to three times (R140). That an expiry's command moves the time on to its timer's end is log
entry 1. -/
def Obligations.TallyAndHold : Prop :=
  ∀ (s : State) (n : Line) (c : OutCall) (rate : Rate), s.outCall n = some c → c.rate = some rate →
    let put (u : State) (ch : Channel) (x : OutCall) : State :=
      { u with lines := u.lines.set n { ch with call := some (.outgoing x) } }
    let act (u : State) (x : OutCall) : State :=
      match (s.chan n).recoder with
      | none => u
      | some r =>
        if x.missing = 0 then u.nextBurst n x r
        else if x.rounds < 4 then u.resendMissing n x
        else
          let lower : Option Rate := match rate with
            | .r14400 => some .r12000 | .r12000 => some .r9600 | .r9600 => some .r7200
            | .r7200 => some .r4800 | .r4800 => some .r2400 | .r2400 => none
          match lower with
          | none => (u.sendFrame n .bye).endOutgoing n .linePoor .stop
          | some a =>
            let y : OutCall := { x with
              ceiling := some a, retraining := true, phase := some .retraining, retrainCause := some .stepDown }
            let ch : Channel := { u.chan n with call := some (.outgoing y) }
            { u with
              outputs := u.outputs ++ [.pump n (.frame (Frame.bytes (.retrain a))), .pump n (.train a)]
              lines := u.lines.set n (ch.start .train (u.timebase + 15000)) }
    let unheld (u : State) : State :=
      let total := c.holdTotal + (u.timebase - c.holdStart)
      let x : OutCall := { c with holdTotal := total }
      let v := put u (((s.chan n).stop .hold).stop .keepalive) x
      if 60000 < total then (v.sendFrame n .bye).endOutgoing n .heldTooLong .stop else act v x
    (∀ (m h : Nat) (bit : Bool) (missing : BitVec 32), (s.chan n).state = .send →
      m < 4294967296 → h ≤ 30 → (∀ i : Fin 32, missing.getLsbD i.val = (decide (i.val < c.burst.length) && m.testBit i.val)) →
      let content := num4 m ++ num1 h ++ yesNo bit
      let x : OutCall :=
        if missing = 0 then { c with missing := 0, burst := [] }
        else { c with missing := missing, rounds := c.rounds + 1 }
      let now : Prop := h = 0 ∨ (missing ≠ 0 ∧ 3 ≤ c.rounds ∧ rate = .r2400)
      (c.phase ≠ some .checking ∨ bit ≠ c.burstBit → exec (.tally n true content) s = .next s)
      ∧ (c.phase = some .checking → bit = c.burstBit →
          (now → exec (.tally n true content) s = .next
            ((act (put s ((s.chan n).stop .tally) x) x).finish s.disp.flags))
          ∧ (¬ now → exec (.tally n true content) s = .next (State.finish
              (put s ((((s.chan n).stop .tally).start .hold (s.timebase + h * 1000)).start .keepalive
                  (s.timebase + 5000)) { x with phase := some .held, holdStart := s.timebase })
                s.disp.flags))))
    ∧ ((s.chan n).state = .send →
        (c.phase = some .held → exec (.resume n true []) s = .next ((unheld s).finish s.disp.flags))
        ∧ (c.phase ≠ some .held → exec (.resume n true []) s = .next s))
    ∧ (∀ d, (s.chan n).deadline .hold = some d →
        exec (.holdTimerExpiry n) s = .next ((unheld (s.advanceTo d)).finish s.disp.flags))
    ∧ (∀ d, (s.chan n).deadline .keepalive = some d →
        let u := s.advanceTo d
        exec (.waitKeepaliveExpiry n) s = .next (State.finish { u with
          outputs := u.outputs ++ [.pump n (.frame (Frame.bytes .wait))]
          lines := u.lines.set n ((s.chan n).start .keepalive (d + 5000)) } s.disp.flags))
    ∧ (∀ d, (s.chan n).deadline .tally = some d →
        let u := s.advanceTo d
        (3 ≤ c.resends → exec (.tallyWaitExpiry n) s = .next
          (((u.stopTimer n .tally).endOutgoing n .remoteGone .stop).finish s.disp.flags))
        ∧ (c.resends < 3 →
            let ch : Channel := { s.chan n with call := some (.outgoing { c with resends := c.resends + 1 }) }
            exec (.tallyWaitExpiry n) s = .next (State.finish { u with
              outputs := u.outputs ++ [.pump n (.frame (Frame.bytes (.check (c.burst.length - 1) c.burstBit)))]
              lines := u.lines.set n (ch.start .tally (u.timebase + 6000)) } s.disp.flags)))

/-- R142, R153: retraining. The caller takes RETRAIN in CHECKING alone, the callee in RECEIVE; the lesser of the frame's
ceiling and the agreed one is the agreed ceiling, under which the pump trains, with a train wait of 15 s; the caller's
TALLY wait and the callee's silence limit stop. TRAINED then sets the rate, at most the ceiling: after a step-down
the caller resends what the fourth tally listed with the round count 0; after the remote's RETRAIN it sends the CHECK
again; the callee's silence limit runs again. -/
def Obligations.Retraining : Prop :=
  ∀ (s : State) (n : Line) (x r : Rate),
    let least (a b : Rate) : Rate := if Rate.bps a ≤ Rate.bps b then a else b
    let trains (ch : Channel) (a : Rate) : State := { s with
      outputs := s.outputs ++ [.pump n (.train a)]
      lines := s.lines.set n (ch.start .train (s.timebase + 15000)) }
    (∀ c, s.outCall n = some c → (s.chan n).state = .send → c.ceiling = some x →
      (c.phase = some .checking →
        let ch : Channel := { (s.chan n).stop .tally with
          call := some (.outgoing { c with
            ceiling := some (least r x), retraining := true, phase := some .retraining
            retrainCause := some .remote }) }
        exec (.retrain n true (num2 (Rate.bps r))) s = .next ((trains ch (least r x)).finish s.disp.flags))
      ∧ (c.phase ≠ some .checking → exec (.retrain n true (num2 (Rate.bps r))) s = .next s)
      ∧ (c.phase = some .retraining →
          let back : OutCall := { c with rate := some (least r x), retraining := false, retrainCause := none }
          let u : State := { s with lines := s.lines.set n ((s.chan n).stop .train) }
          (c.retrainCause = some .stepDown →
            exec (.trained n r) s = .next ((u.resendMissing n { back with rounds := 0 }).finish s.disp.flags))
          ∧ (c.retrainCause = some .remote →
              let ch : Channel := { (s.chan n).stop .train with
                call := some (.outgoing { back with phase := some .checking }) }
              exec (.trained n r) s = .next (State.finish { s with
                outputs := s.outputs ++ [.pump n (.frame (Frame.bytes (.check (c.burst.length - 1) c.burstBit)))]
                lines := s.lines.set n (ch.start .tally (s.timebase + 6000)) } s.disp.flags)))
      ∧ (c.phase ≠ some .retraining → exec (.trained n r) s = .next s))
    ∧ (∀ c, s.inCall n = some c → (s.chan n).state = .receive → c.ceiling = some x →
        exec (.retrain n true (num2 (Rate.bps r))) s = .next ((trains { (s.chan n).stop .silence with
            call := some (.incoming { c with ceiling := some (least r x), retraining := true }) }
          (least r x)).finish s.disp.flags)
        ∧ (c.retraining = true →
            let ch : Channel := { (s.chan n).stop .train with
              call := some (.incoming { c with rate := some (least r x), retraining := false }) }
            exec (.trained n r) s = .next (State.finish
              { s with lines := s.lines.set n (ch.start .silence (s.timebase + 10000)) } s.disp.flags))
        ∧ (c.retraining = false → exec (.trained n r) s = .next s))

/-- R143, R144, R149, R110: what the callee takes in RECEIVE. PAGE HEAD in AWAIT_HEAD creates a page of source RECEIVED
with the frame's width, resolution and line count, the caller's tag and the line, and is answered with REJECT where the
width is refused or all 128 records are in use, and in RECEIVING; in AFTER_LAST it is ignored. BLOCK, CHECK and WAIT
start the silence limit of 10 s again, but not through a retrain. A BLOCK with no page open, of more than 256 bytes, of
a position already held, or with no free block stores nothing; another is stored whole at its position. A CHECK is
answered with the missing set of positions 0 to its last one, HOLD where the free count is below the low mark, and its
own bit; an empty set completes the burst; the resent CHECK of a complete burst, and one with no page open, get an
empty TALLY. That the TALLY of a CHECK with no page open carries HOLD under store pressure, and the callee then holds,
is log entry 15. -/
def Obligations.CalleeReceives : Prop :=
  ∀ (s : State) (n : Line) (c : InCall), s.inCall n = some c → (s.chan n).state = .receive →
    let heard : Channel := if c.retraining then s.chan n else (s.chan n).start .silence (s.timebase + 10000)
    let quieted (x : InCall) : State :=
      { s with lines := s.lines.set n { heard with call := some (.incoming x) } }
    let sends (u : State) (f : Frame) : State :=
      { u with outputs := u.outputs ++ [.pump n (.frame (Frame.bytes f))] }
    (exec (.wait n true []) s = .next ((quieted c).finish s.disp.flags))
    ∧ (∀ (w lines : Nat) (res : Resolution) (form : Form), w < 65536 → lines < 65536 →
        let content := num2 w ++ num1 res.code ++ num1 form.code ++ num2 lines
        let used (k : Nat) : Prop := ∃ p ∈ s.store.pages, p.id = k
        let fits : Prop := 256 ≤ w ∧ w ≤ 2040 ∧ w % 8 = 0
        (c.phase = some .receiving ∨ (c.phase = some .awaitHead ∧ (¬ fits ∨ ∀ k, k < 128 → used k)) →
          exec (.pageHead n true content) s = .next ((sends s .reject).finish s.disp.flags))
        ∧ (c.phase = some .afterLast → exec (.pageHead n true content) s = .next (s.finish s.disp.flags))
        ∧ (∀ id tag, c.phase = some .awaitHead → fits → id < 128 → ¬ used id → (∀ k, k < id → used k) →
            c.tag = some tag →
            ∃ pages : List Page,
              pages.Perm (⟨id, .received, .receiving, w, res, lines, [], List.replicate 32 none, 0, tag, some n,
                [.coding (.line n)]⟩ :: s.store.pages)
              ∧ exec (.pageHead n true content) s = .next (State.finish { s with
                  store := { s.store with pages := pages }
                  lines := s.lines.set n { s.chan n with call := some (.incoming
                    { c with page := some id, phase := some .receiving, burstDone := false }) } }
                  s.disp.flags)))
    ∧ (∀ (pos : Fin 32) (data : List Byte), data ≠ [] →
        let stores (u : State) : Prop :=
          exec (.block n true (num1 pos.val ++ data)) s = .next (u.finish s.disp.flags)
        (c.phase ≠ some .receiving → stores (quieted c))
        ∧ (∀ p, c.phase = some .receiving → c.page = some p.id → s.findPage p.id = some p →
            let free : Prop := p.pendingBurst.getD pos.val none = none
            (256 < data.length ∨ ¬ free ∨ s.store.freeList = [] → stores (quieted c))
            ∧ (data.length ≤ 256 → free → s.store.freeList ≠ [] →
                ∃ (b : Nat) (u : State), (quieted { c with burstDone := false }).receiveGrant = some (b, u)
                  ∧ stores { u with store := { u.store with
                      pages := u.store.pages.map (fun q => if q.id = p.id then { p with
                        pendingBurst := p.pendingBurst.set pos.val (some ⟨b, data.length * 8⟩) } else q)
                      mem := Memory.writeBytes u.store.mem (b * 256) data } })))
    ∧ (∀ (last : Fin 32) (bit : Bool),
        let answers (u : State) : Prop :=
          exec (.check n true (num1 last.val ++ yesNo bit)) s = .next (u.finish s.disp.flags)
        let hold (u : State) : Nat :=
          if u.store.freeList.length < s.settings.lowMark then s.settings.hold else 0
        let empty : State := sends (quieted { c with holding := hold s != 0 }) (.tally 0 (hold s) bit)
        (c.phase = some .awaitHead ∨ c.phase = some .afterLast → answers empty)
        ∧ (∀ p, c.phase = some .receiving → c.page = some p.id → s.findPage p.id = some p →
            let resent : Prop := c.burstDone = true ∧ (∀ e ∈ p.pendingBurst, e = none) ∧ c.completedBit = some bit
            (resent → answers empty)
            ∧ (¬ resent → p.pendingBurst.length = 32 →
                let gone := (p.pendingBurst.drop (last.val + 1)).filterMap id
                let kept := p.pendingBurst.take (last.val + 1) ++ List.replicate (31 - last.val) none
                let u := ((quieted c).putPage { p with pendingBurst := kept }).returnBlocks (gone.map (·.block))
                ∀ (q : Page) (x : InCall) (missing : BitVec 32),
                  u.findPage p.id = some q → u.inCall n = some x →
                  (∀ i : Fin 32, last.val < i.val → q.pendingBurst.getD i.val none = none) →
                  q.pendingBurst.length = 32 →
                  (∀ i : Fin 32, missing.getLsbD i.val =
                    decide (i.val ≤ last.val ∧ q.pendingBurst.getD i.val none = none)) →
                  let tallied (y : InCall) : State := sends { u with
                    lines := u.lines.set n { u.chan n with call := some (.incoming y) } }
                    (.tally missing (hold u) bit)
                  (missing ≠ 0 → answers (tallied { x with holding := hold u != 0 }))
                  ∧ (missing = 0 →
                      let done := tallied { x with
                        holding := hold u != 0, burstDone := true, completedBit := some bit }
                      answers { done with store := { u.store with pages := u.store.pages.map (fun k =>
                        if k.id = p.id then { q with
                          chain := q.chain ++ q.pendingBurst.filterMap id
                          pendingBurst := List.replicate 32 none } else k) } }))))

/-- R150, R19, R13: page ends at the callee. With the page's pending burst empty, MORE or LAST is answered with TAKEN
and the page ends COMPLETE; with blocks in it, with REJECT; with no page open, with TAKEN. MORE waits for the next page
head; LAST leads to AFTER_LAST with the last-page wait of 5 s, which a further LAST starts again. A received page that
ends INCOMPLETE keeps the leading entries of its pending burst, and the blocks of the others return; ended either way
it is routed and the line's CODING holder goes. -/
def Obligations.CalleePageEnds : Prop :=
  (∀ (s : State) (n : Line) (c : InCall) (bit : Bool), s.inCall n = some c → (s.chan n).state = .receive →
    let heard : Channel := if c.retraining then s.chan n else (s.chan n).start .silence (s.timebase + 10000)
    let sent (x : InCall) (ch : Channel) (f : Frame) : State := { s with
      lines := s.lines.set n { ch with call := some (.incoming x) }
      outputs := s.outputs ++ [.pump n (.frame (Frame.bytes f))] }
    let waiting (u : State) : State :=
      { u with lines := u.lines.set n ((u.chan n).start .lastPage (u.timebase + 5000)) }
    (∀ p, c.phase = some .receiving → c.page = some p.id → s.findPage p.id = some p →
      ((∃ e ∈ p.pendingBurst, e ≠ none) →
        exec (.more n true (yesNo bit)) s = .next ((sent c heard .reject).finish s.disp.flags)
        ∧ exec (.last n true (yesNo bit)) s = .next ((sent c heard .reject).finish s.disp.flags))
      ∧ ((∀ e ∈ p.pendingBurst, e = none) →
          let taken (ph : CalleePhase) : State :=
            (sent { c with page := none, burstDone := false, phase := some ph } heard (.taken bit)).endReceived n
              p.id .complete
          exec (.more n true (yesNo bit)) s = .next ((taken .awaitHead).finish s.disp.flags)
          ∧ exec (.last n true (yesNo bit)) s = .next ((waiting (taken .afterLast)).finish s.disp.flags)))
    ∧ (c.phase = some .awaitHead ∨ c.phase = some .afterLast →
        exec (.more n true (yesNo bit)) s = .next ((sent c heard (.taken bit)).finish s.disp.flags)
        ∧ exec (.last n true (yesNo bit)) s = .next
          ((waiting (sent { c with phase := some .afterLast } heard (.taken bit))).finish s.disp.flags)))
  ∧ (∀ (s : State) (n : Line) (p : Page), s.findPage p.id = some p →
      let leaves (u : State) (q : Page) : State :=
        ((u.putPage q).routePage q).dropHolder p.id (.coding (.line n))
      s.endReceived n p.id .complete = leaves s { p with state := .complete }
      ∧ ∀ (lead : List ChainEntry) (rest : List (Option ChainEntry)),
          p.pendingBurst = lead.map some ++ rest → (rest = [] ∨ rest.head? = some none) →
          let q0 : Page := { p with chain := p.chain ++ lead, pendingBurst := List.replicate 32 none }
          let u := (s.putPage q0).returnBlocks ((rest.filterMap id).map (·.block))
          ∀ q, u.findPage p.id = some q →
            s.endReceived n p.id .incomplete = leaves u { q with state := .incomplete })

/-- R147, R148, R151: page ends at the caller. A TAKEN of the page bit in ENDING stops the reply wait, counts the page
delivered, drops its SENDING holder and idles the Recoder: after LAST, BYE ends the call with DONE or as *end after
page* names; after MORE the caller ends likewise with LAST and BYE, opens the next COMPLETE page, ends with DONE where
none follows in a CLOSED job, or waits in PAGE_WAIT, a WAIT going out every 5 s. Any other TAKEN is ignored. The reply
wait's expiry repeats the frame up to three times; the page wait's ends the call with LAST, BYE and PARTIAL. That an
expiry's command moves the time on to its timer's end is log entry 1. A caller in PAGE_WAIT that is told to look at its
next page opens it where it is COMPLETE, sends LAST and BYE and ends with DONE where none is left in a CLOSED job, and
waits on with its timers as they are where it is in CODING, or where none follows in an OPEN job. -/
def Obligations.CallerPageEnds : Prop :=
  ∀ (s : State) (n : Line) (c : OutCall), s.outCall n = some c →
    (∀ (bit : Bool), (s.chan n).state = .send →
      (c.phase ≠ some .ending ∨ bit ≠ c.pageBit → exec (.taken n true (yesNo bit)) s = .next s)
      ∧ (∀ (j : Job) (d : Dest) (r : Recoder), c.phase = some .ending → bit = c.pageBit →
          s.findDest c.job c.dest = some (j, d) → (s.chan n).recoder = some r →
          let c' : OutCall := { c with pageEnd := none }
          let j' : Job := { j with dests := j.dests.set c.dest { d with delivered := d.delivered + 1 } }
          let ch : Channel := { (s.chan n).stop .pageEndReply with call := some (.outgoing c'), recoder := none }
          let u : State := State.dropHolder { s with
            jobs := { s.jobs with jobs := s.jobs.jobs.map (fun k => if k.id = j.id then j' else k) }
            lines := s.lines.set n ch } r.page (.sending n)
          let byeThen (o : CallOutcome) : State := (u.sendFrame n .bye).endOutgoing n o .stop
          let lastAnd (o : CallOutcome) : State :=
            ((u.sendFrame n (.last (!c.pageBit))).sendFrame n .bye).endOutgoing n o .stop
          let after (v : State) : Prop := exec (.taken n true (yesNo bit)) s = .next (v.finish s.disp.flags)
          (c.pageEnd = some .last →
            (∀ e, c.endAfter = some e → after (byeThen (match e with
              | .cancelled => .cancelled | .accountHeld => .accountHeld)))
            ∧ (c.endAfter = none → after (byeThen .done)))
          ∧ (c.pageEnd = some .more →
              (∀ e, c.endAfter = some e → after (lastAnd (match e with
                | .cancelled => .cancelled | .accountHeld => .accountHeld)))
              ∧ (c.endAfter = none →
                  let waits : State :=
                    let w : Channel := { ch with call := some (.outgoing { c' with phase := some .pageWait }) }
                    { u with lines := u.lines.set n ((w.start .pageWait (s.timebase + j.pageWait * 1000)).start
                      .keepalive (s.timebase + 5000)) }
                  (j.pages[d.delivered + 1]? = none → j.state = .closed → after (lastAnd .done))
                  ∧ (j.pages[d.delivered + 1]? = none → j.state ≠ .closed → after waits)
                  ∧ (∀ p, j.pages[d.delivered + 1]? = some p.id → u.findPage p.id = some p →
                      (p.state = .complete → after (u.openPage n c' p))
                      ∧ (p.state ≠ .complete → after waits))))))
    ∧ (∀ d, (s.chan n).deadline .pageEndReply = some d →
        let u := s.advanceTo d
        (3 ≤ c.resends → exec (.pageEndReplyWaitExpiry n) s = .next
          (((u.stopTimer n .pageEndReply).endOutgoing n .remoteGone .stop).finish s.disp.flags))
        ∧ (∀ e, c.resends < 3 → c.pageEnd = some e →
            let ch : Channel := { s.chan n with call := some (.outgoing { c with resends := c.resends + 1 }) }
            let f : Frame := match e with | .last => .last c.pageBit | .more => .more c.pageBit
            exec (.pageEndReplyWaitExpiry n) s = .next (State.finish { u with
              outputs := u.outputs ++ [.pump n (.frame (Frame.bytes f))]
              lines := u.lines.set n (ch.start .pageEndReply (u.timebase + 6000)) } s.disp.flags)))
    ∧ (∀ d, (s.chan n).deadline .pageWait = some d →
        let u := ((s.advanceTo d).stopTimer n .pageWait).stopTimer n .keepalive
        exec (.pageWaitExpiry n) s = .next
          ((((u.sendFrame n (.last (!c.pageBit))).sendFrame n .bye).endOutgoing n .partSent .stop).finish
            s.disp.flags))
    ∧ (c.phase ≠ some .pageWait → s.tellLine n = s)
    ∧ (∀ (j : Job) (d : Dest), c.phase = some .pageWait → s.findDest c.job c.dest = some (j, d) →
        let u : State :=
          { s with lines := s.lines.set n (((s.chan n).stop .pageWait).stop .keepalive) }
        (∀ id, j.pages[d.delivered]? = some id →
          (∀ p, s.findPage id = some p → p.state = .complete → s.tellLine n = u.openPage n c p)
          ∧ (∀ p, s.findPage id = some p → p.state ≠ .complete → s.tellLine n = s)
          ∧ (s.findPage id = none → s.tellLine n = s))
        ∧ (j.pages[d.delivered]? = none → j.state = .closed → s.tellLine n =
            ((u.sendFrame n (.last (!c.pageBit))).sendFrame n .bye).endOutgoing n .done .stop)
        ∧ (j.pages[d.delivered]? = none → j.state ≠ .closed → s.tellLine n = s))

/-! ## Received copy and the printer (09) -/

/-- R178, R179: a received page that has ended is routed once, by the routing setting: to the tail of the print queue
with its PRINT holder while the queue has room, which sets PRINT_BUSY and stops the standby timer; to the host with its
FORWARD holder and its PAGE_RECEIVED notice; or to both. With the queue full a page to be printed goes to the host
alone, and the notice says so. A page that joined the queue begins where it can. -/
def Obligations.ReceivedPageIsRouted : Prop :=
  ∀ (s : State) (p : Page) (n : Line), p.line = some n →
    let told (u : State) (queued full : Bool) : State := { u with
      staged := u.staged ++ [.pageReceived p.id n p.state p.width p.res p.lineCount ((p.chain.map (·.used)).sum)
        p.chain.length p.tag queued full] }
    let queued : State :=
      let q : Printer := { s.printer with queue := s.printer.queue ++ [⟨p.id, none, 0⟩], standbyTimer := none }
      let u : State := ({ s with printer := q } : State).addHolder p.id .print
      { u with disp := { u.disp with flags := u.disp.flags ||| 0x0040#16 } }
    let toHost (full : Bool) : State := told (s.addHolder p.id .forward) false full
    (s.settings.routing = .forward → s.routePage p = toHost false)
    ∧ (s.settings.routing ≠ .forward → 64 ≤ s.printer.queue.length → s.routePage p = toHost true)
    ∧ (s.printer.queue.length < 64 →
        (s.settings.routing = .print → s.routePage p = queued.tryBegin)
        ∧ (s.settings.routing = .both →
            s.routePage p = (told (queued.addHolder p.id .forward) true false).tryBegin))

/-- R180, R181, R183, R184, R186 to R189: the print records and the engine's events. What waits begins in the first
event in which it can: the head page in IDLE and WAKING with READY high, not paused and with paper; in STANDBY it has
WAKE sent, and begins at once where READY is high; a reprint in FAULTED with READY high and paper, paused or not. A
page begins with its page start handed, the decoder at its first line and, at a reprint count of 0, the limit latched.
A fault abandons the page, counts the reprint and queues its notice. READY, PAPER, JAM, the hold timer and the standby
timer act as their rules give. That a timer's command moves the time on to its end, and has no effect where it does not
run, is log entry 1; that the page begins in the event of the WAKE where READY is high is log entry 16. The reply to PRINT RESUME shows the
controller's state after the page begun or the WAKE sent in the same event, which is the model's choice (log entry 34). -/
def Obligations.PrintControl : Prop :=
  (∀ s : State,
    let p := s.printer
    let waits : Prop := p.queue ≠ [] ∧ p.paused = false ∧ p.paperOut = false
    let engine (u : State) (x : EngineRequest) : State := { u with outputs := u.outputs ++ [.engine x] }
    let begun (v u : State) : Prop := ∀ e es page, p.queue = e :: es → s.findPage e.page = some page →
      let head : PrintEntry := if e.reprints = 0 then { e with limit := some s.settings.pageLimit } else e
      let q : Printer := { p with
        queue := head :: es, state := .printing
        decoder := some ⟨page.id, page.width, 0, [page.width], [page.width], 0, 0⟩
        linesHanded := 0, truncated := false, handed := some (.pageStart page.width page.res) }
      u = engine { v with printer := q } (.hand (.pageStart page.width page.res))
    ((p.state = .idle ∨ p.state = .waking) →
      (waits → p.readyPin = true → begun s s.tryBegin)
      ∧ (¬ (waits ∧ p.readyPin = true) → s.tryBegin = s))
    ∧ (p.state = .standby →
        (waits → p.readyPin = false →
          s.tryBegin = engine { s with printer := { p with state := .waking } } .wake)
        ∧ (waits → p.readyPin = true → begun (engine s .wake) s.tryBegin)
        ∧ (¬ waits → s.tryBegin = s))
    ∧ (p.state = .faulted →
        (p.readyPin = true → p.paperOut = false → begun s s.tryBegin)
        ∧ (p.readyPin = false ∨ p.paperOut = true → s.tryBegin = s))
    ∧ (p.state = .printing ∨ p.state = .held → s.tryBegin = s))
  ∧ (∀ s : State,
    let p := s.printer
    let faulted (u : State) (c : PrinterCause) (e : PrintEntry) (es : List PrintEntry) : State :=
      let k := min 255 (e.reprints + 1)
      let q : Printer := { u.printer with
        queue := { e with reprints := k } :: es, state := .faulted, handed := none, deferred := none
        decoder := none, holdTimer := none }
      State.tryBegin { u with
        printer := q, outputs := u.outputs ++ [.engine .abandon]
        staged := u.staged ++ [.printerState c (some e.page) (some k)] }
    let done (i : Instr) (u : State) : Prop := exec i s = .next (u.finish s.disp.flags)
    let busy : Prop := p.state = .printing ∨ p.state = .held
    (∀ r, Takes s .printPause r →
      (r.body ≠ [] → done .printPause (s.refusedWith r .badFormat))
      ∧ (r.body = [] → done .printPause
          { s.answeredOk r (yesNo true ++ num1 p.state.code ++ num1 p.queue.length) with
            printer := { p with paused := true } }))
    ∧ (∀ r, Takes s .printResume r →
        (r.body ≠ [] → done .printResume (s.refusedWith r .badFormat))
        ∧ (r.body = [] →
            let u : State := State.tryBegin { s with link := s.link.take, printer := { p with paused := false } }
            done .printResume
              (u.replyOk r (yesNo false ++ num1 u.printer.state.code ++ num1 u.printer.queue.length))))
    ∧ (p.state = .held →
        (∀ i, p.deferred = some i → done .readyRises { s with
          printer := { p with
            readyPin := true, state := .printing, holdTimer := none, deferred := none, handed := some i }
          outputs := s.outputs ++ [.engine (.hand i)] })
        ∧ (p.deferred = none → done .readyRises { s with
            printer := { p with readyPin := true, state := .printing, holdTimer := none } }))
    ∧ (p.state ≠ .held → done .readyRises (State.tryBegin { s with printer := { p with readyPin := true } }))
    ∧ (p.state = .printing → done .readyFalls { s with
        printer := { p with readyPin := false, state := .held, holdTimer := some (s.timebase + 30000) } })
    ∧ (p.state ≠ .printing → done .readyFalls { s with printer := { p with readyPin := false } })
    ∧ (∀ out : Bool,
        let noted : State := { s with
          printer := { p with paperPin := out, paperOut := out }
          disp := { s.disp with
            flags := if out then s.disp.flags ||| 0x0020#16 else s.disp.flags &&& 0xFFDF#16 }
          staged := s.staged ++ [.printerState (if out then .paperOut else .paperPresent) none none] }
        (p.paperOut = out → done (.paperChange out) { s with printer := { p with paperPin := out } })
        ∧ (∀ e es, p.paperOut ≠ out → out = true → busy → p.queue = e :: es →
            done (.paperChange out) (faulted noted .paper e es))
        ∧ (p.paperOut ≠ out → ¬ (out = true ∧ busy) → done (.paperChange out) noted.tryBegin))
    ∧ (∀ e es, busy → p.queue = e :: es → done .printerJam (faulted s .jam e es))
    ∧ (¬ busy → p.state ≠ .faulted →
        done .printerJam { s with staged := s.staged ++ [.printerState .jam none none] })
    ∧ (p.state = .faulted → done .printerJam s)
    ∧ (∀ d e es, p.holdTimer = some d → p.queue = e :: es →
        done .printHoldTimerExpiry (faulted (s.advanceTo d) .hold e es))
    ∧ (p.holdTimer = none → exec .printHoldTimerExpiry s = .next s)
    ∧ (∀ d, p.standbyTimer = some d →
        let u := s.advanceTo d
        done .standbyTimerExpiry { u with
          printer := { p with state := .standby, standbyTimer := none }
          outputs := u.outputs ++ [.engine .standby] })
    ∧ (p.standbyTimer = none → exec .standbyTimerExpiry s = .next s))

/-- R182, R183, R189: LINE_ACCEPTED. After a page start or a line the decoder is asked for the next line: it is handed
while fewer lines than the latched limit were handed; past the limit it is not, and the page is truncated; where the
data has ended the page end is handed. In HELD with READY low what would be handed waits for the rise. The acceptance
of the page end takes the head off the queue, drops its PRINT holder and queues PAGE_PRINTED; the next page begins
where it can, and with none left PRINT_BUSY is cleared and the standby timer starts, a delay of 0 handing STANDBY at
once. With nothing handed it is ignored. -/
def Obligations.LineAccepted : Prop :=
  ∀ (s : State) (e : PrintEntry) (es : List PrintEntry) (p : Page) (d : Decoder),
    s.printer.queue = e :: es → s.findPage e.page = some p → s.printer.decoder = some d →
    let done (u : State) : Prop := exec .lineAccepted s = .next (u.finish s.disp.flags)
    let hand (q : Printer) (i : PrintItem) : State :=
      if q.state = .held ∧ q.readyPin = false then { s with printer := { q with handed := none, deferred := some i } }
      else { s with printer := { q with handed := some i }, outputs := s.outputs ++ [.engine (.hand i)] }
    (s.printer.handed = none → exec .lineAccepted s = .next s)
    ∧ (∀ i limit, s.printer.handed = some i → i ≠ .pageEnd → e.limit = some limit →
        (d.next (s.pageBits p) = none → done (hand s.printer .pageEnd))
        ∧ (∀ l d', d.next (s.pageBits p) = some (l, d') →
            (s.printer.linesHanded < limit →
              done (hand { s.printer with decoder := some d', linesHanded := s.printer.linesHanded + 1 }
                (.line l.runs)))
            ∧ (limit ≤ s.printer.linesHanded → done (hand { s.printer with truncated := true } .pageEnd))))
    ∧ (∀ n, s.printer.handed = some .pageEnd → p.line = some n →
        let q : Printer := { s.printer with
          handed := none, queue := es, state := .idle, decoder := none, holdTimer := none, deferred := none }
        let u : State := ({ s with printer := q } : State).dropHolder p.id .print
        let v : State := { u with staged := u.staged ++ [.pagePrinted p.id n p.tag p.state d.produced d.concealed
          s.printer.truncated e.reprints (u.findPage p.id).isNone] }
        let idle : State := { v with disp := { v.disp with flags := v.disp.flags &&& 0xFFBF#16 } }
        (es ≠ [] → done v.tryBegin)
        ∧ (es = [] → s.settings.standbyDelay ≠ 0 → done { idle with printer := { q with
            standbyTimer := some (s.timebase + s.settings.standbyDelay * 1000) } })
        ∧ (es = [] → s.settings.standbyDelay = 0 → done { idle with
            printer := { q with state := .standby, standbyTimer := none }
            outputs := idle.outputs ++ [.engine .standby] }))
end

