-- ==== Sys2Proof/Laws/Memory.lean ====
section
/-! SUPPORT. Memory.lean: the memory of the page store: its canonical form, what is read after a write, and which addresses
a write leaves alone. -/

namespace Sys2Proof.Machine

/-- The canonical form, entry by entry. -/
theorem Memory.wf_cons (a : Nat) (b : Byte) (m : List Host.Cell) :
    Memory.wf ((a, b) :: m) = true ↔
      b ≠ Memory.blank ∧ (∀ c ∈ m.head?, a < c.1) ∧ Memory.wf m = true := by
  cases m with
  | nil => simp [Memory.wf]
  | cons c m => obtain ⟨a', b'⟩ := c; simp [Memory.wf, and_assoc]

/-- The first entry after a write is the one written or the one that was first. -/
theorem Memory.head_write (m : List Host.Cell) (x : Nat) (v : Byte) (k : Nat)
    (hm : Memory.wf m = true) (hk : ∀ c ∈ m.head?, k < c.1) (hx : k < x) :
    ∀ c ∈ (Memory.write m x v).head?, k < c.1 := by
  cases m with
  | nil => intro c; unfold Memory.write; split <;> simp; rintro rfl; exact hx
  | cons e m =>
    obtain ⟨a, b⟩ := e
    have ha : k < a := hk (a, b) rfl
    unfold Memory.write
    split
    · split
      · simpa using ha
      · simpa using hx
    · split
      · split
        · intro c hc
          have := ((Memory.wf_cons a b m).mp hm).2.1 c hc
          omega
        · simpa using hx
      · simpa using ha

/-- A write keeps the canonical form. -/
theorem Memory.wf_write (m : List Host.Cell) (x : Nat) (v : Byte) (hm : Memory.wf m = true) :
    Memory.wf (Memory.write m x v) = true := by
  induction m with
  | nil => unfold Memory.write; split <;> simp_all [Memory.wf]
  | cons e m ih =>
    obtain ⟨a, b⟩ := e
    have h := (Memory.wf_cons a b m).mp hm
    unfold Memory.write
    split
    · split
      · exact hm
      · rw [Memory.wf_cons]; exact ⟨‹_›, by simpa, hm⟩
    · split
      · split
        · exact h.2.2
        · rw [Memory.wf_cons]; subst_vars; exact ⟨‹_›, h.2.1, h.2.2⟩
      · rw [Memory.wf_cons]
        exact ⟨h.1, Memory.head_write m x v a h.2.2 h.2.1 (by omega), ih h.2.2⟩

/-- Below the first entry nothing is listed. -/
theorem Memory.read_below (m : List Host.Cell) (x : Nat) (hm : Memory.wf m = true)
    (hx : ∀ c ∈ m.head?, x < c.1) : Memory.read m x = Memory.blank := by
  induction m with
  | nil => rfl
  | cons e m ih =>
    obtain ⟨a, b⟩ := e
    have h := (Memory.wf_cons a b m).mp hm
    have ha : x < a := hx (a, b) rfl
    unfold Memory.read
    rw [if_neg (by omega)]
    exact ih h.2.2 (fun c hc => Nat.lt_trans ha (h.2.1 c hc))

/-- What is read after a write: the value written at its address, every other address as before. -/
theorem Memory.read_write (m : List Host.Cell) (x y : Nat) (v : Byte) (hm : Memory.wf m = true) :
    Memory.read (Memory.write m x v) y = if y = x then v else Memory.read m y := by
  induction m with
  | nil =>
    unfold Memory.write
    by_cases hv : v = Memory.blank
    · rw [if_pos hv]; split
      · rw [hv]; rfl
      · rfl
    · rw [if_neg hv]; simp only [Memory.read, eq_comm]
  | cons e m ih =>
    obtain ⟨a, b⟩ := e
    have h := (Memory.wf_cons a b m).mp hm
    have hb : Memory.read m a = Memory.blank := Memory.read_below m a h.2.2 h.2.1
    unfold Memory.write
    by_cases h1 : x < a
    · have hx : Memory.read ((a, b) :: m) x = Memory.blank :=
        Memory.read_below _ x hm (by simpa)
      rw [if_pos h1]
      by_cases hv : v = Memory.blank
      · rw [if_pos hv]
        by_cases hy : y = x
        · rw [if_pos hy, hy, hx, hv]
        · rw [if_neg hy]
      · rw [if_neg hv, Memory.read]
        by_cases hy : y = x
        · rw [if_pos hy, if_pos hy.symm]
        · rw [if_neg hy, if_neg (Ne.symm hy)]
    · rw [if_neg h1]
      by_cases h2 : x = a
      · subst h2
        rw [if_pos rfl]
        by_cases hv : v = Memory.blank
        · rw [if_pos hv]
          by_cases hy : y = x
          · rw [if_pos hy, hy, hb, hv]
          · rw [if_neg hy, Memory.read, if_neg (Ne.symm hy)]
        · rw [if_neg hv, Memory.read]
          by_cases hy : y = x
          · rw [if_pos hy, if_pos hy.symm]
          · rw [if_neg hy, if_neg (Ne.symm hy), Memory.read, if_neg (Ne.symm hy)]
      · rw [if_neg h2, Memory.read, ih h.2.2, Memory.read]
        by_cases hy : a = y
        · rw [if_pos hy, if_pos hy, if_neg (by omega)]
        · rw [if_neg hy, if_neg hy]

/-- Writing bytes one after another keeps the canonical form. -/
theorem Memory.wf_writeBytes (vs : List Byte) :
    ∀ (m : List Host.Cell) (x : Nat), Memory.wf m = true → Memory.wf (Memory.writeBytes m x vs) = true := by
  induction vs with
  | nil => intro m x h; exact h
  | cons v vs ih => intro m x h; exact ih _ _ (Memory.wf_write m x v h)

/-- What is read after bytes were written one after another. -/
theorem Memory.read_writeBytes (vs : List Byte) :
    ∀ (m : List Host.Cell) (x y : Nat), Memory.wf m = true →
      Memory.read (Memory.writeBytes m x vs) y =
        if x ≤ y ∧ y < x + vs.length then vs.getD (y - x) 0 else Memory.read m y := by
  induction vs with
  | nil => intro m x y _; rw [if_neg (by simp)]; rfl
  | cons v vs ih =>
    intro m x y h
    rw [Memory.writeBytes, ih _ _ _ (Memory.wf_write m x v h), Memory.read_write m x y v h]
    by_cases h1 : y = x
    · subst h1
      rw [if_neg (by omega), if_pos rfl, if_pos (by simp)]
      simp
    · by_cases h2 : x ≤ y ∧ y < x + (v :: vs).length
      · rw [if_pos h2, if_pos (by simp at h2; omega)]
        obtain ⟨k, rfl⟩ : ∃ k, y = x + 1 + k := ⟨y - x - 1, by omega⟩
        have e1 : x + 1 + k - x = k + 1 := by omega
        simp [e1]
      · rw [if_neg h2, if_neg (by simp at h2; omega), if_neg h1]

/-- Writing coded bits keeps the canonical form. -/
theorem Memory.wf_writeBits (m : List Host.Cell) (block off : Nat) (bits : Bits)
    (h : Memory.wf m = true) : Memory.wf (Memory.writeBits m block off bits) = true := by
  unfold Memory.writeBits
  split
  · exact h
  · exact Memory.wf_writeBytes _ _ _ h

theorem packBytes_length (bs : Bits) : (packBytes bs).length = ceilDiv bs.length 8 := by
  induction bs using packBytes.induct with
  | case1 => rfl
  | case2 a b c d e f g h rest ih => simp only [packBytes, List.length_cons, ih, ceilDiv]; omega
  | case3 short h1 h2 =>
    rw [packBytes.eq_3 short h1 h2]
    match short with
    | [] => exact absurd rfl h1
    | [_] | [_, _] | [_, _, _] | [_, _, _, _] | [_, _, _, _, _] | [_, _, _, _, _, _]
    | [_, _, _, _, _, _, _] => simp [ceilDiv]
    | a :: b :: c :: d :: e :: f :: g :: h :: rest => exact (h2 a b c d e f g h rest rfl).elim

theorem byteBits_length (b : Byte) : (byteBits b).length = 8 := by simp [byteBits, natBits]

/-- Writing coded bits within a block leaves every address outside the block as it was. -/
theorem Memory.read_writeBits_outside (m : List Host.Cell) (block off : Nat) (bits : Bits) (y : Nat)
    (h : Memory.wf m = true) (fits : off + bits.length ≤ Config.blockBits)
    (hy : y < blockAddr block ∨ blockAddr block + Config.blockBytes ≤ y) :
    Memory.read (Memory.writeBits m block off bits) y = Memory.read m y := by
  unfold Memory.writeBits
  split
  · rfl
  · rename_i hne
    have hpos : 0 < bits.length := List.length_pos_iff.mpr hne
    simp only
    rw [Memory.read_writeBytes _ _ _ _ h, if_neg]
    simp only [packBytes_length, ceilDiv, List.length_append, List.length_take, List.length_drop,
      byteBits_length, Config.blockBits, Config.blockBytes] at *
    omega

end Sys2Proof.Machine
end

