-- ==== Sys2Proof/Laws/State.lean ====
section
/-! SUPPORT. State.lean: what each update of a block of the state leaves in each block: one lemma per field per update. -/

namespace Sys2Proof.Machine

@[simp] theorem State.setTimebase_timebase (s : State) (x : Nat) : (s.setTimebase x).timebase = x := rfl
@[simp] theorem State.setTimebase_straps (s : State) (x : Nat) : (s.setTimebase x).straps = s.straps := rfl
@[simp] theorem State.setTimebase_settings (s : State) (x : Nat) : (s.setTimebase x).settings = s.settings := rfl
@[simp] theorem State.setTimebase_store (s : State) (x : Nat) : (s.setTimebase x).store = s.store := rfl
@[simp] theorem State.setTimebase_scanCtx (s : State) (x : Nat) : (s.setTimebase x).scanCtx = s.scanCtx := rfl
@[simp] theorem State.setTimebase_linkCtx (s : State) (x : Nat) : (s.setTimebase x).linkCtx = s.linkCtx := rfl
@[simp] theorem State.setTimebase_scanner (s : State) (x : Nat) : (s.setTimebase x).scanner = s.scanner := rfl
@[simp] theorem State.setTimebase_jobs (s : State) (x : Nat) : (s.setTimebase x).jobs = s.jobs := rfl
@[simp] theorem State.setTimebase_disp (s : State) (x : Nat) : (s.setTimebase x).disp = s.disp := rfl
@[simp] theorem State.setTimebase_lines (s : State) (x : Nat) : (s.setTimebase x).lines = s.lines := rfl
@[simp] theorem State.setTimebase_charge (s : State) (x : Nat) : (s.setTimebase x).charge = s.charge := rfl
@[simp] theorem State.setTimebase_printer (s : State) (x : Nat) : (s.setTimebase x).printer = s.printer := rfl
@[simp] theorem State.setTimebase_link (s : State) (x : Nat) : (s.setTimebase x).link = s.link := rfl
@[simp] theorem State.setTimebase_loader (s : State) (x : Nat) : (s.setTimebase x).loader = s.loader := rfl
@[simp] theorem State.setTimebase_staged (s : State) (x : Nat) : (s.setTimebase x).staged = s.staged := rfl
@[simp] theorem State.setTimebase_outputs (s : State) (x : Nat) : (s.setTimebase x).outputs = s.outputs := rfl
@[simp] theorem State.setTimebase_pending (s : State) (x : Nat) : (s.setTimebase x).pending = s.pending := rfl

@[simp] theorem State.setStraps_timebase (s : State) (x : Straps) : (s.setStraps x).timebase = s.timebase := rfl
@[simp] theorem State.setStraps_straps (s : State) (x : Straps) : (s.setStraps x).straps = x := rfl
@[simp] theorem State.setStraps_settings (s : State) (x : Straps) : (s.setStraps x).settings = s.settings := rfl
@[simp] theorem State.setStraps_store (s : State) (x : Straps) : (s.setStraps x).store = s.store := rfl
@[simp] theorem State.setStraps_scanCtx (s : State) (x : Straps) : (s.setStraps x).scanCtx = s.scanCtx := rfl
@[simp] theorem State.setStraps_linkCtx (s : State) (x : Straps) : (s.setStraps x).linkCtx = s.linkCtx := rfl
@[simp] theorem State.setStraps_scanner (s : State) (x : Straps) : (s.setStraps x).scanner = s.scanner := rfl
@[simp] theorem State.setStraps_jobs (s : State) (x : Straps) : (s.setStraps x).jobs = s.jobs := rfl
@[simp] theorem State.setStraps_disp (s : State) (x : Straps) : (s.setStraps x).disp = s.disp := rfl
@[simp] theorem State.setStraps_lines (s : State) (x : Straps) : (s.setStraps x).lines = s.lines := rfl
@[simp] theorem State.setStraps_charge (s : State) (x : Straps) : (s.setStraps x).charge = s.charge := rfl
@[simp] theorem State.setStraps_printer (s : State) (x : Straps) : (s.setStraps x).printer = s.printer := rfl
@[simp] theorem State.setStraps_link (s : State) (x : Straps) : (s.setStraps x).link = s.link := rfl
@[simp] theorem State.setStraps_loader (s : State) (x : Straps) : (s.setStraps x).loader = s.loader := rfl
@[simp] theorem State.setStraps_staged (s : State) (x : Straps) : (s.setStraps x).staged = s.staged := rfl
@[simp] theorem State.setStraps_outputs (s : State) (x : Straps) : (s.setStraps x).outputs = s.outputs := rfl
@[simp] theorem State.setStraps_pending (s : State) (x : Straps) : (s.setStraps x).pending = s.pending := rfl

@[simp] theorem State.setSettings_timebase (s : State) (x : Settings) : (s.setSettings x).timebase = s.timebase := rfl
@[simp] theorem State.setSettings_straps (s : State) (x : Settings) : (s.setSettings x).straps = s.straps := rfl
@[simp] theorem State.setSettings_settings (s : State) (x : Settings) : (s.setSettings x).settings = x := rfl
@[simp] theorem State.setSettings_store (s : State) (x : Settings) : (s.setSettings x).store = s.store := rfl
@[simp] theorem State.setSettings_scanCtx (s : State) (x : Settings) : (s.setSettings x).scanCtx = s.scanCtx := rfl
@[simp] theorem State.setSettings_linkCtx (s : State) (x : Settings) : (s.setSettings x).linkCtx = s.linkCtx := rfl
@[simp] theorem State.setSettings_scanner (s : State) (x : Settings) : (s.setSettings x).scanner = s.scanner := rfl
@[simp] theorem State.setSettings_jobs (s : State) (x : Settings) : (s.setSettings x).jobs = s.jobs := rfl
@[simp] theorem State.setSettings_disp (s : State) (x : Settings) : (s.setSettings x).disp = s.disp := rfl
@[simp] theorem State.setSettings_lines (s : State) (x : Settings) : (s.setSettings x).lines = s.lines := rfl
@[simp] theorem State.setSettings_charge (s : State) (x : Settings) : (s.setSettings x).charge = s.charge := rfl
@[simp] theorem State.setSettings_printer (s : State) (x : Settings) : (s.setSettings x).printer = s.printer := rfl
@[simp] theorem State.setSettings_link (s : State) (x : Settings) : (s.setSettings x).link = s.link := rfl
@[simp] theorem State.setSettings_loader (s : State) (x : Settings) : (s.setSettings x).loader = s.loader := rfl
@[simp] theorem State.setSettings_staged (s : State) (x : Settings) : (s.setSettings x).staged = s.staged := rfl
@[simp] theorem State.setSettings_outputs (s : State) (x : Settings) : (s.setSettings x).outputs = s.outputs := rfl
@[simp] theorem State.setSettings_pending (s : State) (x : Settings) : (s.setSettings x).pending = s.pending := rfl

@[simp] theorem State.setStore_timebase (s : State) (x : Store) : (s.setStore x).timebase = s.timebase := rfl
@[simp] theorem State.setStore_straps (s : State) (x : Store) : (s.setStore x).straps = s.straps := rfl
@[simp] theorem State.setStore_settings (s : State) (x : Store) : (s.setStore x).settings = s.settings := rfl
@[simp] theorem State.setStore_store (s : State) (x : Store) : (s.setStore x).store = x := rfl
@[simp] theorem State.setStore_scanCtx (s : State) (x : Store) : (s.setStore x).scanCtx = s.scanCtx := rfl
@[simp] theorem State.setStore_linkCtx (s : State) (x : Store) : (s.setStore x).linkCtx = s.linkCtx := rfl
@[simp] theorem State.setStore_scanner (s : State) (x : Store) : (s.setStore x).scanner = s.scanner := rfl
@[simp] theorem State.setStore_jobs (s : State) (x : Store) : (s.setStore x).jobs = s.jobs := rfl
@[simp] theorem State.setStore_disp (s : State) (x : Store) : (s.setStore x).disp = s.disp := rfl
@[simp] theorem State.setStore_lines (s : State) (x : Store) : (s.setStore x).lines = s.lines := rfl
@[simp] theorem State.setStore_charge (s : State) (x : Store) : (s.setStore x).charge = s.charge := rfl
@[simp] theorem State.setStore_printer (s : State) (x : Store) : (s.setStore x).printer = s.printer := rfl
@[simp] theorem State.setStore_link (s : State) (x : Store) : (s.setStore x).link = s.link := rfl
@[simp] theorem State.setStore_loader (s : State) (x : Store) : (s.setStore x).loader = s.loader := rfl
@[simp] theorem State.setStore_staged (s : State) (x : Store) : (s.setStore x).staged = s.staged := rfl
@[simp] theorem State.setStore_outputs (s : State) (x : Store) : (s.setStore x).outputs = s.outputs := rfl
@[simp] theorem State.setStore_pending (s : State) (x : Store) : (s.setStore x).pending = s.pending := rfl

@[simp] theorem State.setScanCtx_timebase (s : State) (x : Option Coding) : (s.setScanCtx x).timebase = s.timebase := rfl
@[simp] theorem State.setScanCtx_straps (s : State) (x : Option Coding) : (s.setScanCtx x).straps = s.straps := rfl
@[simp] theorem State.setScanCtx_settings (s : State) (x : Option Coding) : (s.setScanCtx x).settings = s.settings := rfl
@[simp] theorem State.setScanCtx_store (s : State) (x : Option Coding) : (s.setScanCtx x).store = s.store := rfl
@[simp] theorem State.setScanCtx_scanCtx (s : State) (x : Option Coding) : (s.setScanCtx x).scanCtx = x := rfl
@[simp] theorem State.setScanCtx_linkCtx (s : State) (x : Option Coding) : (s.setScanCtx x).linkCtx = s.linkCtx := rfl
@[simp] theorem State.setScanCtx_scanner (s : State) (x : Option Coding) : (s.setScanCtx x).scanner = s.scanner := rfl
@[simp] theorem State.setScanCtx_jobs (s : State) (x : Option Coding) : (s.setScanCtx x).jobs = s.jobs := rfl
@[simp] theorem State.setScanCtx_disp (s : State) (x : Option Coding) : (s.setScanCtx x).disp = s.disp := rfl
@[simp] theorem State.setScanCtx_lines (s : State) (x : Option Coding) : (s.setScanCtx x).lines = s.lines := rfl
@[simp] theorem State.setScanCtx_charge (s : State) (x : Option Coding) : (s.setScanCtx x).charge = s.charge := rfl
@[simp] theorem State.setScanCtx_printer (s : State) (x : Option Coding) : (s.setScanCtx x).printer = s.printer := rfl
@[simp] theorem State.setScanCtx_link (s : State) (x : Option Coding) : (s.setScanCtx x).link = s.link := rfl
@[simp] theorem State.setScanCtx_loader (s : State) (x : Option Coding) : (s.setScanCtx x).loader = s.loader := rfl
@[simp] theorem State.setScanCtx_staged (s : State) (x : Option Coding) : (s.setScanCtx x).staged = s.staged := rfl
@[simp] theorem State.setScanCtx_outputs (s : State) (x : Option Coding) : (s.setScanCtx x).outputs = s.outputs := rfl
@[simp] theorem State.setScanCtx_pending (s : State) (x : Option Coding) : (s.setScanCtx x).pending = s.pending := rfl

@[simp] theorem State.setLinkCtx_timebase (s : State) (x : Option Coding) : (s.setLinkCtx x).timebase = s.timebase := rfl
@[simp] theorem State.setLinkCtx_straps (s : State) (x : Option Coding) : (s.setLinkCtx x).straps = s.straps := rfl
@[simp] theorem State.setLinkCtx_settings (s : State) (x : Option Coding) : (s.setLinkCtx x).settings = s.settings := rfl
@[simp] theorem State.setLinkCtx_store (s : State) (x : Option Coding) : (s.setLinkCtx x).store = s.store := rfl
@[simp] theorem State.setLinkCtx_scanCtx (s : State) (x : Option Coding) : (s.setLinkCtx x).scanCtx = s.scanCtx := rfl
@[simp] theorem State.setLinkCtx_linkCtx (s : State) (x : Option Coding) : (s.setLinkCtx x).linkCtx = x := rfl
@[simp] theorem State.setLinkCtx_scanner (s : State) (x : Option Coding) : (s.setLinkCtx x).scanner = s.scanner := rfl
@[simp] theorem State.setLinkCtx_jobs (s : State) (x : Option Coding) : (s.setLinkCtx x).jobs = s.jobs := rfl
@[simp] theorem State.setLinkCtx_disp (s : State) (x : Option Coding) : (s.setLinkCtx x).disp = s.disp := rfl
@[simp] theorem State.setLinkCtx_lines (s : State) (x : Option Coding) : (s.setLinkCtx x).lines = s.lines := rfl
@[simp] theorem State.setLinkCtx_charge (s : State) (x : Option Coding) : (s.setLinkCtx x).charge = s.charge := rfl
@[simp] theorem State.setLinkCtx_printer (s : State) (x : Option Coding) : (s.setLinkCtx x).printer = s.printer := rfl
@[simp] theorem State.setLinkCtx_link (s : State) (x : Option Coding) : (s.setLinkCtx x).link = s.link := rfl
@[simp] theorem State.setLinkCtx_loader (s : State) (x : Option Coding) : (s.setLinkCtx x).loader = s.loader := rfl
@[simp] theorem State.setLinkCtx_staged (s : State) (x : Option Coding) : (s.setLinkCtx x).staged = s.staged := rfl
@[simp] theorem State.setLinkCtx_outputs (s : State) (x : Option Coding) : (s.setLinkCtx x).outputs = s.outputs := rfl
@[simp] theorem State.setLinkCtx_pending (s : State) (x : Option Coding) : (s.setLinkCtx x).pending = s.pending := rfl

@[simp] theorem State.setScanner_timebase (s : State) (x : Scanner) : (s.setScanner x).timebase = s.timebase := rfl
@[simp] theorem State.setScanner_straps (s : State) (x : Scanner) : (s.setScanner x).straps = s.straps := rfl
@[simp] theorem State.setScanner_settings (s : State) (x : Scanner) : (s.setScanner x).settings = s.settings := rfl
@[simp] theorem State.setScanner_store (s : State) (x : Scanner) : (s.setScanner x).store = s.store := rfl
@[simp] theorem State.setScanner_scanCtx (s : State) (x : Scanner) : (s.setScanner x).scanCtx = s.scanCtx := rfl
@[simp] theorem State.setScanner_linkCtx (s : State) (x : Scanner) : (s.setScanner x).linkCtx = s.linkCtx := rfl
@[simp] theorem State.setScanner_scanner (s : State) (x : Scanner) : (s.setScanner x).scanner = x := rfl
@[simp] theorem State.setScanner_jobs (s : State) (x : Scanner) : (s.setScanner x).jobs = s.jobs := rfl
@[simp] theorem State.setScanner_disp (s : State) (x : Scanner) : (s.setScanner x).disp = s.disp := rfl
@[simp] theorem State.setScanner_lines (s : State) (x : Scanner) : (s.setScanner x).lines = s.lines := rfl
@[simp] theorem State.setScanner_charge (s : State) (x : Scanner) : (s.setScanner x).charge = s.charge := rfl
@[simp] theorem State.setScanner_printer (s : State) (x : Scanner) : (s.setScanner x).printer = s.printer := rfl
@[simp] theorem State.setScanner_link (s : State) (x : Scanner) : (s.setScanner x).link = s.link := rfl
@[simp] theorem State.setScanner_loader (s : State) (x : Scanner) : (s.setScanner x).loader = s.loader := rfl
@[simp] theorem State.setScanner_staged (s : State) (x : Scanner) : (s.setScanner x).staged = s.staged := rfl
@[simp] theorem State.setScanner_outputs (s : State) (x : Scanner) : (s.setScanner x).outputs = s.outputs := rfl
@[simp] theorem State.setScanner_pending (s : State) (x : Scanner) : (s.setScanner x).pending = s.pending := rfl

@[simp] theorem State.setJobs_timebase (s : State) (x : JobTable) : (s.setJobs x).timebase = s.timebase := rfl
@[simp] theorem State.setJobs_straps (s : State) (x : JobTable) : (s.setJobs x).straps = s.straps := rfl
@[simp] theorem State.setJobs_settings (s : State) (x : JobTable) : (s.setJobs x).settings = s.settings := rfl
@[simp] theorem State.setJobs_store (s : State) (x : JobTable) : (s.setJobs x).store = s.store := rfl
@[simp] theorem State.setJobs_scanCtx (s : State) (x : JobTable) : (s.setJobs x).scanCtx = s.scanCtx := rfl
@[simp] theorem State.setJobs_linkCtx (s : State) (x : JobTable) : (s.setJobs x).linkCtx = s.linkCtx := rfl
@[simp] theorem State.setJobs_scanner (s : State) (x : JobTable) : (s.setJobs x).scanner = s.scanner := rfl
@[simp] theorem State.setJobs_jobs (s : State) (x : JobTable) : (s.setJobs x).jobs = x := rfl
@[simp] theorem State.setJobs_disp (s : State) (x : JobTable) : (s.setJobs x).disp = s.disp := rfl
@[simp] theorem State.setJobs_lines (s : State) (x : JobTable) : (s.setJobs x).lines = s.lines := rfl
@[simp] theorem State.setJobs_charge (s : State) (x : JobTable) : (s.setJobs x).charge = s.charge := rfl
@[simp] theorem State.setJobs_printer (s : State) (x : JobTable) : (s.setJobs x).printer = s.printer := rfl
@[simp] theorem State.setJobs_link (s : State) (x : JobTable) : (s.setJobs x).link = s.link := rfl
@[simp] theorem State.setJobs_loader (s : State) (x : JobTable) : (s.setJobs x).loader = s.loader := rfl
@[simp] theorem State.setJobs_staged (s : State) (x : JobTable) : (s.setJobs x).staged = s.staged := rfl
@[simp] theorem State.setJobs_outputs (s : State) (x : JobTable) : (s.setJobs x).outputs = s.outputs := rfl
@[simp] theorem State.setJobs_pending (s : State) (x : JobTable) : (s.setJobs x).pending = s.pending := rfl

@[simp] theorem State.setDisp_timebase (s : State) (x : Dispatcher) : (s.setDisp x).timebase = s.timebase := rfl
@[simp] theorem State.setDisp_straps (s : State) (x : Dispatcher) : (s.setDisp x).straps = s.straps := rfl
@[simp] theorem State.setDisp_settings (s : State) (x : Dispatcher) : (s.setDisp x).settings = s.settings := rfl
@[simp] theorem State.setDisp_store (s : State) (x : Dispatcher) : (s.setDisp x).store = s.store := rfl
@[simp] theorem State.setDisp_scanCtx (s : State) (x : Dispatcher) : (s.setDisp x).scanCtx = s.scanCtx := rfl
@[simp] theorem State.setDisp_linkCtx (s : State) (x : Dispatcher) : (s.setDisp x).linkCtx = s.linkCtx := rfl
@[simp] theorem State.setDisp_scanner (s : State) (x : Dispatcher) : (s.setDisp x).scanner = s.scanner := rfl
@[simp] theorem State.setDisp_jobs (s : State) (x : Dispatcher) : (s.setDisp x).jobs = s.jobs := rfl
@[simp] theorem State.setDisp_disp (s : State) (x : Dispatcher) : (s.setDisp x).disp = x := rfl
@[simp] theorem State.setDisp_lines (s : State) (x : Dispatcher) : (s.setDisp x).lines = s.lines := rfl
@[simp] theorem State.setDisp_charge (s : State) (x : Dispatcher) : (s.setDisp x).charge = s.charge := rfl
@[simp] theorem State.setDisp_printer (s : State) (x : Dispatcher) : (s.setDisp x).printer = s.printer := rfl
@[simp] theorem State.setDisp_link (s : State) (x : Dispatcher) : (s.setDisp x).link = s.link := rfl
@[simp] theorem State.setDisp_loader (s : State) (x : Dispatcher) : (s.setDisp x).loader = s.loader := rfl
@[simp] theorem State.setDisp_staged (s : State) (x : Dispatcher) : (s.setDisp x).staged = s.staged := rfl
@[simp] theorem State.setDisp_outputs (s : State) (x : Dispatcher) : (s.setDisp x).outputs = s.outputs := rfl
@[simp] theorem State.setDisp_pending (s : State) (x : Dispatcher) : (s.setDisp x).pending = s.pending := rfl

@[simp] theorem State.setLines_timebase (s : State) (x : PerLine Channel) : (s.setLines x).timebase = s.timebase := rfl
@[simp] theorem State.setLines_straps (s : State) (x : PerLine Channel) : (s.setLines x).straps = s.straps := rfl
@[simp] theorem State.setLines_settings (s : State) (x : PerLine Channel) : (s.setLines x).settings = s.settings := rfl
@[simp] theorem State.setLines_store (s : State) (x : PerLine Channel) : (s.setLines x).store = s.store := rfl
@[simp] theorem State.setLines_scanCtx (s : State) (x : PerLine Channel) : (s.setLines x).scanCtx = s.scanCtx := rfl
@[simp] theorem State.setLines_linkCtx (s : State) (x : PerLine Channel) : (s.setLines x).linkCtx = s.linkCtx := rfl
@[simp] theorem State.setLines_scanner (s : State) (x : PerLine Channel) : (s.setLines x).scanner = s.scanner := rfl
@[simp] theorem State.setLines_jobs (s : State) (x : PerLine Channel) : (s.setLines x).jobs = s.jobs := rfl
@[simp] theorem State.setLines_disp (s : State) (x : PerLine Channel) : (s.setLines x).disp = s.disp := rfl
@[simp] theorem State.setLines_lines (s : State) (x : PerLine Channel) : (s.setLines x).lines = x := rfl
@[simp] theorem State.setLines_charge (s : State) (x : PerLine Channel) : (s.setLines x).charge = s.charge := rfl
@[simp] theorem State.setLines_printer (s : State) (x : PerLine Channel) : (s.setLines x).printer = s.printer := rfl
@[simp] theorem State.setLines_link (s : State) (x : PerLine Channel) : (s.setLines x).link = s.link := rfl
@[simp] theorem State.setLines_loader (s : State) (x : PerLine Channel) : (s.setLines x).loader = s.loader := rfl
@[simp] theorem State.setLines_staged (s : State) (x : PerLine Channel) : (s.setLines x).staged = s.staged := rfl
@[simp] theorem State.setLines_outputs (s : State) (x : PerLine Channel) : (s.setLines x).outputs = s.outputs := rfl
@[simp] theorem State.setLines_pending (s : State) (x : PerLine Channel) : (s.setLines x).pending = s.pending := rfl

@[simp] theorem State.setCharge_timebase (s : State) (x : Charge) : (s.setCharge x).timebase = s.timebase := rfl
@[simp] theorem State.setCharge_straps (s : State) (x : Charge) : (s.setCharge x).straps = s.straps := rfl
@[simp] theorem State.setCharge_settings (s : State) (x : Charge) : (s.setCharge x).settings = s.settings := rfl
@[simp] theorem State.setCharge_store (s : State) (x : Charge) : (s.setCharge x).store = s.store := rfl
@[simp] theorem State.setCharge_scanCtx (s : State) (x : Charge) : (s.setCharge x).scanCtx = s.scanCtx := rfl
@[simp] theorem State.setCharge_linkCtx (s : State) (x : Charge) : (s.setCharge x).linkCtx = s.linkCtx := rfl
@[simp] theorem State.setCharge_scanner (s : State) (x : Charge) : (s.setCharge x).scanner = s.scanner := rfl
@[simp] theorem State.setCharge_jobs (s : State) (x : Charge) : (s.setCharge x).jobs = s.jobs := rfl
@[simp] theorem State.setCharge_disp (s : State) (x : Charge) : (s.setCharge x).disp = s.disp := rfl
@[simp] theorem State.setCharge_lines (s : State) (x : Charge) : (s.setCharge x).lines = s.lines := rfl
@[simp] theorem State.setCharge_charge (s : State) (x : Charge) : (s.setCharge x).charge = x := rfl
@[simp] theorem State.setCharge_printer (s : State) (x : Charge) : (s.setCharge x).printer = s.printer := rfl
@[simp] theorem State.setCharge_link (s : State) (x : Charge) : (s.setCharge x).link = s.link := rfl
@[simp] theorem State.setCharge_loader (s : State) (x : Charge) : (s.setCharge x).loader = s.loader := rfl
@[simp] theorem State.setCharge_staged (s : State) (x : Charge) : (s.setCharge x).staged = s.staged := rfl
@[simp] theorem State.setCharge_outputs (s : State) (x : Charge) : (s.setCharge x).outputs = s.outputs := rfl
@[simp] theorem State.setCharge_pending (s : State) (x : Charge) : (s.setCharge x).pending = s.pending := rfl

@[simp] theorem State.setPrinter_timebase (s : State) (x : Printer) : (s.setPrinter x).timebase = s.timebase := rfl
@[simp] theorem State.setPrinter_straps (s : State) (x : Printer) : (s.setPrinter x).straps = s.straps := rfl
@[simp] theorem State.setPrinter_settings (s : State) (x : Printer) : (s.setPrinter x).settings = s.settings := rfl
@[simp] theorem State.setPrinter_store (s : State) (x : Printer) : (s.setPrinter x).store = s.store := rfl
@[simp] theorem State.setPrinter_scanCtx (s : State) (x : Printer) : (s.setPrinter x).scanCtx = s.scanCtx := rfl
@[simp] theorem State.setPrinter_linkCtx (s : State) (x : Printer) : (s.setPrinter x).linkCtx = s.linkCtx := rfl
@[simp] theorem State.setPrinter_scanner (s : State) (x : Printer) : (s.setPrinter x).scanner = s.scanner := rfl
@[simp] theorem State.setPrinter_jobs (s : State) (x : Printer) : (s.setPrinter x).jobs = s.jobs := rfl
@[simp] theorem State.setPrinter_disp (s : State) (x : Printer) : (s.setPrinter x).disp = s.disp := rfl
@[simp] theorem State.setPrinter_lines (s : State) (x : Printer) : (s.setPrinter x).lines = s.lines := rfl
@[simp] theorem State.setPrinter_charge (s : State) (x : Printer) : (s.setPrinter x).charge = s.charge := rfl
@[simp] theorem State.setPrinter_printer (s : State) (x : Printer) : (s.setPrinter x).printer = x := rfl
@[simp] theorem State.setPrinter_link (s : State) (x : Printer) : (s.setPrinter x).link = s.link := rfl
@[simp] theorem State.setPrinter_loader (s : State) (x : Printer) : (s.setPrinter x).loader = s.loader := rfl
@[simp] theorem State.setPrinter_staged (s : State) (x : Printer) : (s.setPrinter x).staged = s.staged := rfl
@[simp] theorem State.setPrinter_outputs (s : State) (x : Printer) : (s.setPrinter x).outputs = s.outputs := rfl
@[simp] theorem State.setPrinter_pending (s : State) (x : Printer) : (s.setPrinter x).pending = s.pending := rfl

@[simp] theorem State.setLink_timebase (s : State) (x : Link) : (s.setLink x).timebase = s.timebase := rfl
@[simp] theorem State.setLink_straps (s : State) (x : Link) : (s.setLink x).straps = s.straps := rfl
@[simp] theorem State.setLink_settings (s : State) (x : Link) : (s.setLink x).settings = s.settings := rfl
@[simp] theorem State.setLink_store (s : State) (x : Link) : (s.setLink x).store = s.store := rfl
@[simp] theorem State.setLink_scanCtx (s : State) (x : Link) : (s.setLink x).scanCtx = s.scanCtx := rfl
@[simp] theorem State.setLink_linkCtx (s : State) (x : Link) : (s.setLink x).linkCtx = s.linkCtx := rfl
@[simp] theorem State.setLink_scanner (s : State) (x : Link) : (s.setLink x).scanner = s.scanner := rfl
@[simp] theorem State.setLink_jobs (s : State) (x : Link) : (s.setLink x).jobs = s.jobs := rfl
@[simp] theorem State.setLink_disp (s : State) (x : Link) : (s.setLink x).disp = s.disp := rfl
@[simp] theorem State.setLink_lines (s : State) (x : Link) : (s.setLink x).lines = s.lines := rfl
@[simp] theorem State.setLink_charge (s : State) (x : Link) : (s.setLink x).charge = s.charge := rfl
@[simp] theorem State.setLink_printer (s : State) (x : Link) : (s.setLink x).printer = s.printer := rfl
@[simp] theorem State.setLink_link (s : State) (x : Link) : (s.setLink x).link = x := rfl
@[simp] theorem State.setLink_loader (s : State) (x : Link) : (s.setLink x).loader = s.loader := rfl
@[simp] theorem State.setLink_staged (s : State) (x : Link) : (s.setLink x).staged = s.staged := rfl
@[simp] theorem State.setLink_outputs (s : State) (x : Link) : (s.setLink x).outputs = s.outputs := rfl
@[simp] theorem State.setLink_pending (s : State) (x : Link) : (s.setLink x).pending = s.pending := rfl

@[simp] theorem State.setLoader_timebase (s : State) (x : Loader) : (s.setLoader x).timebase = s.timebase := rfl
@[simp] theorem State.setLoader_straps (s : State) (x : Loader) : (s.setLoader x).straps = s.straps := rfl
@[simp] theorem State.setLoader_settings (s : State) (x : Loader) : (s.setLoader x).settings = s.settings := rfl
@[simp] theorem State.setLoader_store (s : State) (x : Loader) : (s.setLoader x).store = s.store := rfl
@[simp] theorem State.setLoader_scanCtx (s : State) (x : Loader) : (s.setLoader x).scanCtx = s.scanCtx := rfl
@[simp] theorem State.setLoader_linkCtx (s : State) (x : Loader) : (s.setLoader x).linkCtx = s.linkCtx := rfl
@[simp] theorem State.setLoader_scanner (s : State) (x : Loader) : (s.setLoader x).scanner = s.scanner := rfl
@[simp] theorem State.setLoader_jobs (s : State) (x : Loader) : (s.setLoader x).jobs = s.jobs := rfl
@[simp] theorem State.setLoader_disp (s : State) (x : Loader) : (s.setLoader x).disp = s.disp := rfl
@[simp] theorem State.setLoader_lines (s : State) (x : Loader) : (s.setLoader x).lines = s.lines := rfl
@[simp] theorem State.setLoader_charge (s : State) (x : Loader) : (s.setLoader x).charge = s.charge := rfl
@[simp] theorem State.setLoader_printer (s : State) (x : Loader) : (s.setLoader x).printer = s.printer := rfl
@[simp] theorem State.setLoader_link (s : State) (x : Loader) : (s.setLoader x).link = s.link := rfl
@[simp] theorem State.setLoader_loader (s : State) (x : Loader) : (s.setLoader x).loader = x := rfl
@[simp] theorem State.setLoader_staged (s : State) (x : Loader) : (s.setLoader x).staged = s.staged := rfl
@[simp] theorem State.setLoader_outputs (s : State) (x : Loader) : (s.setLoader x).outputs = s.outputs := rfl
@[simp] theorem State.setLoader_pending (s : State) (x : Loader) : (s.setLoader x).pending = s.pending := rfl

@[simp] theorem State.setStaged_timebase (s : State) (x : List Notice) : (s.setStaged x).timebase = s.timebase := rfl
@[simp] theorem State.setStaged_straps (s : State) (x : List Notice) : (s.setStaged x).straps = s.straps := rfl
@[simp] theorem State.setStaged_settings (s : State) (x : List Notice) : (s.setStaged x).settings = s.settings := rfl
@[simp] theorem State.setStaged_store (s : State) (x : List Notice) : (s.setStaged x).store = s.store := rfl
@[simp] theorem State.setStaged_scanCtx (s : State) (x : List Notice) : (s.setStaged x).scanCtx = s.scanCtx := rfl
@[simp] theorem State.setStaged_linkCtx (s : State) (x : List Notice) : (s.setStaged x).linkCtx = s.linkCtx := rfl
@[simp] theorem State.setStaged_scanner (s : State) (x : List Notice) : (s.setStaged x).scanner = s.scanner := rfl
@[simp] theorem State.setStaged_jobs (s : State) (x : List Notice) : (s.setStaged x).jobs = s.jobs := rfl
@[simp] theorem State.setStaged_disp (s : State) (x : List Notice) : (s.setStaged x).disp = s.disp := rfl
@[simp] theorem State.setStaged_lines (s : State) (x : List Notice) : (s.setStaged x).lines = s.lines := rfl
@[simp] theorem State.setStaged_charge (s : State) (x : List Notice) : (s.setStaged x).charge = s.charge := rfl
@[simp] theorem State.setStaged_printer (s : State) (x : List Notice) : (s.setStaged x).printer = s.printer := rfl
@[simp] theorem State.setStaged_link (s : State) (x : List Notice) : (s.setStaged x).link = s.link := rfl
@[simp] theorem State.setStaged_loader (s : State) (x : List Notice) : (s.setStaged x).loader = s.loader := rfl
@[simp] theorem State.setStaged_staged (s : State) (x : List Notice) : (s.setStaged x).staged = x := rfl
@[simp] theorem State.setStaged_outputs (s : State) (x : List Notice) : (s.setStaged x).outputs = s.outputs := rfl
@[simp] theorem State.setStaged_pending (s : State) (x : List Notice) : (s.setStaged x).pending = s.pending := rfl

@[simp] theorem State.setOutputs_timebase (s : State) (x : List Output) : (s.setOutputs x).timebase = s.timebase := rfl
@[simp] theorem State.setOutputs_straps (s : State) (x : List Output) : (s.setOutputs x).straps = s.straps := rfl
@[simp] theorem State.setOutputs_settings (s : State) (x : List Output) : (s.setOutputs x).settings = s.settings := rfl
@[simp] theorem State.setOutputs_store (s : State) (x : List Output) : (s.setOutputs x).store = s.store := rfl
@[simp] theorem State.setOutputs_scanCtx (s : State) (x : List Output) : (s.setOutputs x).scanCtx = s.scanCtx := rfl
@[simp] theorem State.setOutputs_linkCtx (s : State) (x : List Output) : (s.setOutputs x).linkCtx = s.linkCtx := rfl
@[simp] theorem State.setOutputs_scanner (s : State) (x : List Output) : (s.setOutputs x).scanner = s.scanner := rfl
@[simp] theorem State.setOutputs_jobs (s : State) (x : List Output) : (s.setOutputs x).jobs = s.jobs := rfl
@[simp] theorem State.setOutputs_disp (s : State) (x : List Output) : (s.setOutputs x).disp = s.disp := rfl
@[simp] theorem State.setOutputs_lines (s : State) (x : List Output) : (s.setOutputs x).lines = s.lines := rfl
@[simp] theorem State.setOutputs_charge (s : State) (x : List Output) : (s.setOutputs x).charge = s.charge := rfl
@[simp] theorem State.setOutputs_printer (s : State) (x : List Output) : (s.setOutputs x).printer = s.printer := rfl
@[simp] theorem State.setOutputs_link (s : State) (x : List Output) : (s.setOutputs x).link = s.link := rfl
@[simp] theorem State.setOutputs_loader (s : State) (x : List Output) : (s.setOutputs x).loader = s.loader := rfl
@[simp] theorem State.setOutputs_staged (s : State) (x : List Output) : (s.setOutputs x).staged = s.staged := rfl
@[simp] theorem State.setOutputs_outputs (s : State) (x : List Output) : (s.setOutputs x).outputs = x := rfl
@[simp] theorem State.setOutputs_pending (s : State) (x : List Output) : (s.setOutputs x).pending = s.pending := rfl

@[simp] theorem State.setPending_timebase (s : State) (x : List Instr) : (s.setPending x).timebase = s.timebase := rfl
@[simp] theorem State.setPending_straps (s : State) (x : List Instr) : (s.setPending x).straps = s.straps := rfl
@[simp] theorem State.setPending_settings (s : State) (x : List Instr) : (s.setPending x).settings = s.settings := rfl
@[simp] theorem State.setPending_store (s : State) (x : List Instr) : (s.setPending x).store = s.store := rfl
@[simp] theorem State.setPending_scanCtx (s : State) (x : List Instr) : (s.setPending x).scanCtx = s.scanCtx := rfl
@[simp] theorem State.setPending_linkCtx (s : State) (x : List Instr) : (s.setPending x).linkCtx = s.linkCtx := rfl
@[simp] theorem State.setPending_scanner (s : State) (x : List Instr) : (s.setPending x).scanner = s.scanner := rfl
@[simp] theorem State.setPending_jobs (s : State) (x : List Instr) : (s.setPending x).jobs = s.jobs := rfl
@[simp] theorem State.setPending_disp (s : State) (x : List Instr) : (s.setPending x).disp = s.disp := rfl
@[simp] theorem State.setPending_lines (s : State) (x : List Instr) : (s.setPending x).lines = s.lines := rfl
@[simp] theorem State.setPending_charge (s : State) (x : List Instr) : (s.setPending x).charge = s.charge := rfl
@[simp] theorem State.setPending_printer (s : State) (x : List Instr) : (s.setPending x).printer = s.printer := rfl
@[simp] theorem State.setPending_link (s : State) (x : List Instr) : (s.setPending x).link = s.link := rfl
@[simp] theorem State.setPending_loader (s : State) (x : List Instr) : (s.setPending x).loader = s.loader := rfl
@[simp] theorem State.setPending_staged (s : State) (x : List Instr) : (s.setPending x).staged = s.staged := rfl
@[simp] theorem State.setPending_outputs (s : State) (x : List Instr) : (s.setPending x).outputs = s.outputs := rfl
@[simp] theorem State.setPending_pending (s : State) (x : List Instr) : (s.setPending x).pending = x := rfl

end Sys2Proof.Machine
end

