-- ==== Sys2Proof/Laws/Kept.lean ====
section
/-! SUPPORT. Kept.lean: what the shared operations can do to the parts of the state that only a few of them touch: the
memory of the page store, the clock, the LFSR, the settings and the link. A property of these parts that the primitive
changes keep is kept by every operation; one lemma for each operation. -/

namespace Sys2Proof.Machine

/-- The two states agree in the memory, the clock, the LFSR, the settings and the link. -/
def Agree (s t : State) : Prop :=
  t.store.mem = s.store.mem ∧ t.charge.clock = s.charge.clock ∧ t.disp.lfsr = s.disp.lfsr
    ∧ t.settings = s.settings ∧ t.link = s.link

/-- A property that every change inside an event keeps: coded data written into the memory, time going on, a step of
the LFSR, a notice queued, and any change of the other parts of the state. -/
structure Kept where
  holds : State → Prop
  agree : ∀ s t, Agree s t → holds s → holds t
  writeBits : ∀ s x block off bits, x.mem = Memory.writeBits s.store.mem block off bits → holds s →
    holds (s.setStore x)
  writeBytes : ∀ s x at_ bytes, x.mem = Memory.writeBytes s.store.mem at_ bytes → holds s →
    holds (s.setStore x)
  clock : ∀ s t, holds s → holds (s.moveTo t)
  lfsr : ∀ s x, x.lfsr = lfsrStep s.disp.lfsr → holds s → holds (s.setDisp x)
  notice : ∀ s n, holds s → holds (s.setLink (s.link.queueNotice n))

namespace Kept

variable (I : Kept) {s : State}

theorem setTimebase (x : Nat) (h : I.holds s) : I.holds (s.setTimebase x) :=
  I.agree s _ ⟨rfl, rfl, rfl, rfl, rfl⟩ h

theorem setStraps (x : Straps) (h : I.holds s) : I.holds (s.setStraps x) :=
  I.agree s _ ⟨rfl, rfl, rfl, rfl, rfl⟩ h

theorem setScanCtx (x : Option Coding) (h : I.holds s) : I.holds (s.setScanCtx x) :=
  I.agree s _ ⟨rfl, rfl, rfl, rfl, rfl⟩ h

theorem setLinkCtx (x : Option Coding) (h : I.holds s) : I.holds (s.setLinkCtx x) :=
  I.agree s _ ⟨rfl, rfl, rfl, rfl, rfl⟩ h

theorem setScanner (x : Scanner) (h : I.holds s) : I.holds (s.setScanner x) :=
  I.agree s _ ⟨rfl, rfl, rfl, rfl, rfl⟩ h

theorem setJobs (x : JobTable) (h : I.holds s) : I.holds (s.setJobs x) :=
  I.agree s _ ⟨rfl, rfl, rfl, rfl, rfl⟩ h

theorem setLines (x : PerLine Channel) (h : I.holds s) : I.holds (s.setLines x) :=
  I.agree s _ ⟨rfl, rfl, rfl, rfl, rfl⟩ h

theorem setPrinter (x : Printer) (h : I.holds s) : I.holds (s.setPrinter x) :=
  I.agree s _ ⟨rfl, rfl, rfl, rfl, rfl⟩ h

theorem setLoader (x : Loader) (h : I.holds s) : I.holds (s.setLoader x) :=
  I.agree s _ ⟨rfl, rfl, rfl, rfl, rfl⟩ h

theorem setStaged (x : List Notice) (h : I.holds s) : I.holds (s.setStaged x) :=
  I.agree s _ ⟨rfl, rfl, rfl, rfl, rfl⟩ h

theorem setOutputs (x : List Output) (h : I.holds s) : I.holds (s.setOutputs x) :=
  I.agree s _ ⟨rfl, rfl, rfl, rfl, rfl⟩ h

theorem setPending (x : List Instr) (h : I.holds s) : I.holds (s.setPending x) :=
  I.agree s _ ⟨rfl, rfl, rfl, rfl, rfl⟩ h

theorem setStore {x : Store} (e : x.mem = s.store.mem) (h : I.holds s) : I.holds (s.setStore x) :=
  I.agree s _ ⟨e, rfl, rfl, rfl, rfl⟩ h

theorem setCharge {x : Charge} (e : x.clock = s.charge.clock) (h : I.holds s) : I.holds (s.setCharge x) :=
  I.agree s _ ⟨rfl, e, rfl, rfl, rfl⟩ h

theorem setDisp {x : Dispatcher} (e : x.lfsr = s.disp.lfsr) (h : I.holds s) : I.holds (s.setDisp x) :=
  I.agree s _ ⟨rfl, rfl, e, rfl, rfl⟩ h

/-- An operation repeated over a list keeps what each of its turns keeps. -/
theorem foldl {α : Type} (f : State → α → State) (l : List α) (h : I.holds s)
    (hf : ∀ t a, I.holds t → I.holds (f t a)) : I.holds (l.foldl f s) := by
  induction l generalizing s with
  | nil => exact h
  | cons a l ih => exact ih (hf s a h)

theorem queueNotices (ns : List Notice) (h : I.holds s) :
    I.holds (s.setLink (ns.foldl Link.queueNotice s.link)) := by
  induction ns generalizing s with
  | nil => exact I.agree s _ ⟨rfl, rfl, rfl, rfl, rfl⟩ h
  | cons n ns ih => exact ih (I.notice s n h)

theorem setChan (n : Line) (c : Channel) (h : I.holds s) : I.holds (s.setChan n c) := I.setLines _ h

theorem setChanState (n : Line) (c : ChanState) (h : I.holds s) : I.holds (s.setChanState n c) := I.setChan _ _ h

theorem setOut (n : Line) (c : OutCall) (h : I.holds s) : I.holds (s.setOut n c) := I.setChan _ _ h

theorem setIn (n : Line) (c : InCall) (h : I.holds s) : I.holds (s.setIn n c) := I.setChan _ _ h

theorem setLineEntry (n : Line) (e : LineEntry) (h : I.holds s) : I.holds (s.setLineEntry n e) := I.setDisp rfl h

theorem startTimer (n : Line) (t : Timer) (ms : Nat) (h : I.holds s) : I.holds (s.startTimer n t ms) := I.setChan _ _ h

theorem stopTimer (n : Line) (t : Timer) (h : I.holds s) : I.holds (s.stopTimer n t) := I.setChan _ _ h

theorem stopTimers (n : Line) (h : I.holds s) : I.holds (s.stopTimers n) := I.setChan _ _ h

theorem emit (o : Output) (h : I.holds s) : I.holds (s.emit o) := I.setOutputs _ h

theorem pump (n : Line) (r : PumpRequest) (h : I.holds s) : I.holds (s.pump n r) := I.emit _ h

theorem stage (n : Notice) (h : I.holds s) : I.holds (s.stage n) := I.setStaged _ h

theorem sendFrame (n : Line) (f : Frame) (hs : I.holds s) : I.holds (s.sendFrame n f) := by
  unfold State.sendFrame
  repeat' first | with_reducible assumption | with_reducible apply I.pump

theorem putFlag (i : Nat) (v : Bool) (hs : I.holds s) : I.holds (s.putFlag i v) := by
  unfold State.putFlag
  repeat' first | with_reducible assumption | (with_reducible refine I.setDisp ?_ ?_) | rfl

theorem requestPass (hs : I.holds s) : I.holds s.requestPass := by
  unfold State.requestPass
  repeat' first | with_reducible assumption | (with_reducible refine I.setDisp ?_ ?_) | rfl

theorem evaluateReleases (before : BitVec 16) (hs : I.holds s) :
    I.holds (s.evaluateReleases before) := by
  unfold State.evaluateReleases
  try dsimp only
  repeat' first
    | with_reducible assumption
    | with_reducible apply I.setJobs
    | with_reducible apply I.setStaged
    | with_reducible apply I.requestPass
    | split

theorem flushNotices (h : I.holds s) : I.holds s.flushNotices := I.setStaged _ (I.queueNotices _ h)

theorem putPage (p : Page) (hs : I.holds s) : I.holds (s.putPage p) := by
  unfold State.putPage
  repeat' first | with_reducible assumption | (with_reducible refine I.setStore ?_ ?_) | rfl

theorem resumeLine (n : Line) (hs : I.holds s) : I.holds (s.resumeLine n) := by
  unfold State.resumeLine
  repeat' first
    | with_reducible assumption
    | with_reducible apply I.setIn
    | with_reducible apply I.sendFrame
    | split

theorem raiseStoreLow (hs : I.holds s) : I.holds s.raiseStoreLow := by
  unfold State.raiseStoreLow
  repeat' first
    | with_reducible assumption
    | (with_reducible refine I.setStore ?_ ?_)
    | with_reducible apply I.stage
    | with_reducible apply I.putFlag
    | rfl

theorem clearStoreLow (hs : I.holds s) : I.holds s.clearStoreLow := by
  unfold State.clearStoreLow
  repeat' first
    | with_reducible assumption
    | (with_reducible refine I.foldl _ _ ?_ ?_)
    | with_reducible apply I.resumeLine
    | (with_reducible refine I.setStore ?_ ?_)
    | with_reducible apply I.stage
    | with_reducible apply I.putFlag
    | intro _ _ _
    | rfl

theorem testLow (hs : I.holds s) : I.holds s.testLow := by
  unfold State.testLow
  repeat' first | with_reducible assumption | with_reducible apply I.raiseStoreLow | split

theorem testHigh (hs : I.holds s) : I.holds s.testHigh := by
  unfold State.testHigh
  repeat' first | with_reducible assumption | with_reducible apply I.clearStoreLow | split

theorem testMarks (hs : I.holds s) : I.holds s.testMarks := by
  unfold State.testMarks
  repeat' first
    | with_reducible assumption
    | with_reducible apply I.testHigh
    | with_reducible apply I.testLow
    | split

theorem takeBlock_mem {st st' : Store} {b : Nat} (e : st.takeBlock = some (b, st')) :
    st'.mem = st.mem := by
  unfold Store.takeBlock at e
  split at e
  · cases e
  · cases e; rfl

theorem coderGrant {t : State} {b : Nat} (h : I.holds s) (e : s.coderGrant = some (b, t)) :
    I.holds t := by
  unfold State.coderGrant at e
  split at e
  · cases h1 : s.store.takeBlock with
    | none => rw [h1] at e; cases e
    | some r =>
      rw [h1] at e; cases e
      exact I.testLow (I.setStore (takeBlock_mem h1) h)
  · cases e

theorem receiveGrant {t : State} {b : Nat} (h : I.holds s) (e : s.receiveGrant = some (b, t)) :
    I.holds t := by
  unfold State.receiveGrant at e
  cases h1 : s.store.takeBlock with
  | none => rw [h1] at e; cases e
  | some r =>
    rw [h1] at e; cases e
    exact I.testLow (I.setStore (takeBlock_mem h1) h)

theorem writeChain_fst (fuel id : Nat) (bits : Bits) (h : I.holds s) :
    I.holds (State.writeChain fuel s id bits).1 := by
  induction fuel generalizing s bits with
  | zero => exact h
  | succ fuel ih =>
    unfold State.writeChain
    split
    · exact h
    · split
      · exact h
      · split
        · exact ih _ (I.writeBits s _ _ _ _ rfl h)
        · split
          · exact h
          · rename_i e
            exact ih _ (I.putPage _ (I.coderGrant h e))

theorem writeChain {fuel id : Nat} {bits left : Bits} {t : State} (h : I.holds s)
    (e : State.writeChain fuel s id bits = (t, left)) : I.holds t := by
  have := I.writeChain_fst fuel id bits h
  rwa [e] at this

theorem countLine (id : Nat) (hs : I.holds s) : I.holds (s.countLine id) := by
  unfold State.countLine
  repeat' first | with_reducible assumption | with_reducible apply I.putPage | split

theorem writeScanHeld (hs : I.holds s) : I.holds s.writeScanHeld := by
  unfold State.writeScanHeld
  try dsimp only
  repeat' first
    | with_reducible assumption
    | exact I.writeChain ‹_› ‹_›
    | with_reducible apply I.writeChain_fst
    | with_reducible apply I.setScanCtx
    | (with_reducible refine I.setStore ?_ ?_)
    | with_reducible apply I.countLine
    | split
    | rfl

theorem retakeScan (hs : I.holds s) : I.holds s.retakeScan := by
  unfold State.retakeScan
  repeat' first | with_reducible assumption | with_reducible apply I.writeScanHeld | split

theorem returnBlocks (bs : List Nat) (hs : I.holds s) : I.holds (s.returnBlocks bs) := by
  unfold State.returnBlocks
  repeat' first
    | with_reducible assumption
    | (with_reducible refine I.setStore ?_ ?_)
    | with_reducible apply I.testHigh
    | with_reducible apply I.retakeScan
    | split
    | rfl

theorem freePage (p : Page) (hs : I.holds s) : I.holds (s.freePage p) := by
  unfold State.freePage
  repeat' first
    | with_reducible assumption
    | (with_reducible refine I.setStore ?_ ?_)
    | with_reducible apply I.returnBlocks
    | rfl

theorem addHolder (id : Nat) (h : Holder) (hs : I.holds s) : I.holds (s.addHolder id h) := by
  unfold State.addHolder
  repeat' first | with_reducible assumption | with_reducible apply I.putPage | split

theorem dropHolder (id : Nat) (h : Holder) (hs : I.holds s) : I.holds (s.dropHolder id h) := by
  unfold State.dropHolder
  try dsimp only
  repeat' first
    | with_reducible assumption
    | with_reducible apply I.freePage
    | with_reducible apply I.putPage
    | split

theorem createPage {source : PageSource} {width : Nat} {res : Resolution} {lines : Nat}
    {tag : List Byte} {line : Option Line} {party : CodingParty} {id : Nat} {t : State}
    (h : I.holds s) (e : s.createPage source width res lines tag line party = .ok (id, t)) :
    I.holds t := by
  unfold State.createPage at e
  split at e
  · cases e
  · split at e
    · cases e
    · cases e; exact I.setStore rfl h

theorem putJob (j : Job) (hs : I.holds s) : I.holds (s.putJob j) := by
  unfold State.putJob
  repeat' first | with_reducible assumption | with_reducible apply I.setJobs | split

theorem finishJob (j : Job) (st : JobState) (hs : I.holds s) : I.holds (s.finishJob j st) := by
  unfold State.finishJob
  try dsimp only
  repeat' first
    | with_reducible assumption
    | with_reducible apply I.putJob
    | (with_reducible refine I.foldl _ _ ?_ ?_)
    | with_reducible apply I.dropHolder
    | with_reducible apply I.stage
    | intro _ _ _

theorem settleJob (id : Nat) (hs : I.holds s) : I.holds (s.settleJob id) := by
  unfold State.settleJob
  repeat' first | with_reducible assumption | with_reducible apply I.finishJob | split

theorem retry (j : Job) (i : Nat) (d : Dest) (hs : I.holds s) : I.holds (s.retry j i d) := by
  unfold State.retry
  try dsimp only
  repeat' first
    | with_reducible assumption
    | (with_reducible refine I.lfsr _ _ ?_ ?_; rfl)
    | with_reducible apply I.putJob
    | (with_reducible refine I.setDisp ?_ ?_)
    | split
    | rfl

theorem takeOutcome (j : Job) (i : Nat) (d : Dest) (o : CallOutcome) (hs : I.holds s) :
    I.holds (s.takeOutcome j i d o) := by
  unfold State.takeOutcome
  try dsimp only
  repeat' first
    | with_reducible assumption
    | with_reducible apply I.putJob
    | with_reducible apply I.retry
    | split

theorem reportCallEnd (job i : Nat) (o : CallOutcome) (hs : I.holds s) :
    I.holds (s.reportCallEnd job i o) := by
  unfold State.reportCallEnd
  repeat' first
    | with_reducible assumption
    | with_reducible apply I.takeOutcome
    | with_reducible apply I.settleJob
    | split

theorem addCharged (job i total : Nat) (hs : I.holds s) : I.holds (s.addCharged job i total) := by
  unfold State.addCharged
  repeat' first | with_reducible assumption | with_reducible apply I.putJob | split

theorem unlistPage (page : Nat) (j : Job) (hs : I.holds s) : I.holds (s.unlistPage page j) := by
  unfold State.unlistPage
  repeat' first
    | with_reducible assumption
    | with_reducible apply I.putJob
    | with_reducible apply I.dropHolder

theorem afterPageLoss (id : Nat) (hs : I.holds s) : I.holds (s.afterPageLoss id) := by
  unfold State.afterPageLoss
  repeat' first
    | with_reducible assumption
    | with_reducible apply I.putJob
    | with_reducible apply I.settleJob
    | split

theorem refindBand (hs : I.holds s) : I.holds s.refindBand := by
  unfold State.refindBand
  try dsimp only
  repeat' first
    | with_reducible assumption
    | (with_reducible refine I.setCharge ?_ ?_)
    | (with_reducible refine I.setDisp ?_ ?_)
    | split
    | rfl

theorem advanceTo (t : Nat) (hs : I.holds s) : I.holds (s.advanceTo t) := by
  unfold State.advanceTo
  split
  · exact I.clock _ _ (I.refindBand (I.clock _ _ hs))
  · exact I.clock _ _ hs

theorem setAccount (a : Fin 64) (x : Account) (hs : I.holds s) : I.holds (s.setAccount a x) := by
  unfold State.setAccount
  repeat' first | with_reducible assumption | (with_reducible refine I.setCharge ?_ ?_) | rfl

theorem post (a : Fin 64) (charge : Nat) (hs : I.holds s) : I.holds (s.post a charge) := by
  unfold State.post
  try dsimp only
  repeat' first | with_reducible assumption | with_reducible apply I.setAccount

theorem markLimit (a : Fin 64) (hs : I.holds s) : I.holds (s.markLimit a) := by
  unfold State.markLimit
  try dsimp only
  repeat' first
    | with_reducible assumption
    | with_reducible apply I.setAccount
    | with_reducible apply I.stage
    | split

theorem reevaluateHeld (a : Fin 64) (hs : I.holds s) : I.holds (s.reevaluateHeld a) := by
  unfold State.reevaluateHeld
  try dsimp only
  repeat' first
    | with_reducible assumption
    | with_reducible apply I.setJobs
    | with_reducible apply I.requestPass
    | split

theorem setMeter (n : Line) (m : Option Meter) (hs : I.holds s) : I.holds (s.setMeter n m) := by
  unfold State.setMeter
  repeat' first | with_reducible assumption | (with_reducible refine I.setCharge ?_ ?_) | rfl

theorem chargeAnswer (n : Line) (c : OutCall) (hs : I.holds s) : I.holds (s.chargeAnswer n c) := by
  unfold State.chargeAnswer
  try dsimp only
  repeat' first
    | with_reducible assumption
    | with_reducible apply I.setMeter
    | with_reducible apply I.post
    | with_reducible apply I.setAccount

theorem chargePulse (n : Line) (m : Meter) (hs : I.holds s) : I.holds (s.chargePulse n m) := by
  unfold State.chargePulse
  try dsimp only
  repeat' first
    | with_reducible assumption
    | with_reducible apply I.setMeter
    | with_reducible apply I.post

theorem issueTicket (n : Line) (m : Meter) (o : CallOutcome) (hs : I.holds s) :
    I.holds (s.issueTicket n m o) := by
  unfold State.issueTicket
  try dsimp only
  repeat' first | with_reducible assumption | (with_reducible refine I.setCharge ?_ ?_) | rfl

theorem takeSlot (hs : I.holds s) : I.holds s.takeSlot := by
  unfold State.takeSlot
  repeat' first | with_reducible assumption | (with_reducible refine I.setCharge ?_ ?_) | rfl

theorem releaseSlot (hs : I.holds s) : I.holds s.releaseSlot := by
  unfold State.releaseSlot
  repeat' first
    | with_reducible assumption
    | (with_reducible refine I.setCharge ?_ ?_)
    | with_reducible apply I.requestPass
    | rfl

theorem settleCharge (n : Line) (o : CallOutcome) (hs : I.holds s) : I.holds (s.settleCharge n o) := by
  unfold State.settleCharge
  repeat' first
    | with_reducible assumption
    | with_reducible apply I.issueTicket
    | with_reducible apply I.addCharged
    | with_reducible apply I.releaseSlot
    | split

theorem putLineFree (n : Line) (v : Bool) (hs : I.holds s) : I.holds (s.putLineFree n v) := by
  unfold State.putLineFree
  repeat' first | with_reducible assumption | with_reducible apply I.putFlag

theorem enterIdle (n : Line) (hs : I.holds s) : I.holds (s.enterIdle n) := by
  unfold State.enterIdle
  repeat' first
    | with_reducible assumption
    | with_reducible apply I.setChanState
    | with_reducible apply I.putLineFree
    | with_reducible apply I.requestPass

theorem enterClear (n : Line) (hs : I.holds s) : I.holds (s.enterClear n) := by
  unfold State.enterClear
  repeat' first | with_reducible assumption | with_reducible apply I.setChan

theorem endOutgoing (n : Line) (o : CallOutcome) (p : PumpRequest) (hs : I.holds s) :
    I.holds (s.endOutgoing n o p) := by
  unfold State.endOutgoing
  try dsimp only
  repeat' first
    | with_reducible assumption
    | with_reducible apply I.emit
    | with_reducible apply I.pump
    | with_reducible apply I.enterClear
    | with_reducible apply I.dropHolder
    | with_reducible apply I.settleCharge
    | with_reducible apply I.reportCallEnd
    | split

theorem hangUp (n : Line) (o : CallOutcome) (hs : I.holds s) : I.holds (s.hangUp n o) := by
  unfold State.hangUp
  repeat' first | with_reducible assumption | with_reducible apply I.endOutgoing

theorem byeAndEnd (n : Line) (o : CallOutcome) (hs : I.holds s) : I.holds (s.byeAndEnd n o) := by
  unfold State.byeAndEnd
  repeat' first
    | with_reducible assumption
    | with_reducible apply I.sendFrame
    | with_reducible apply I.hangUp

theorem lastAndBye (n : Line) (c : OutCall) (o : CallOutcome) (hs : I.holds s) :
    I.holds (s.lastAndBye n c o) := by
  unfold State.lastAndBye
  repeat' first
    | with_reducible assumption
    | with_reducible apply I.sendFrame
    | with_reducible apply I.byeAndEnd

theorem dialStep (n : Line) (c : OutCall) (pos : Nat) (hs : I.holds s) :
    I.holds (s.dialStep n c pos) := by
  unfold State.dialStep
  try dsimp only
  repeat' first
    | with_reducible assumption
    | with_reducible apply I.setOut
    | with_reducible apply I.setChanState
    | with_reducible apply I.startTimer
    | with_reducible apply I.pump
    | split

theorem stopDialling (n : Line) (hs : I.holds s) : I.holds (s.stopDialling n) := by
  unfold State.stopDialling
  repeat' first
    | with_reducible assumption
    | with_reducible apply I.stopTimer
    | with_reducible apply I.pump
    | split

theorem train (n : Line) (ceiling : Rate) (hs : I.holds s) : I.holds (s.train n ceiling) := by
  unfold State.train
  repeat' first
    | with_reducible assumption
    | with_reducible apply I.pump
    | with_reducible apply I.startTimer

theorem sendPositions (n : Line) (c : OutCall) (which : Nat → Bool) (hs : I.holds s) :
    I.holds (s.sendPositions n c which) := by
  unfold State.sendPositions
  try dsimp only
  repeat' first
    | with_reducible assumption
    | (with_reducible refine I.foldl _ _ ?_ ?_)
    | with_reducible apply I.sendFrame
    | with_reducible apply I.setOut
    | with_reducible apply I.startTimer
    | intro _ _ _

theorem sendBurst (n : Line) (c : OutCall) (blocks : List (List Byte)) (hs : I.holds s) :
    I.holds (s.sendBurst n c blocks) := by
  unfold State.sendBurst
  repeat' first | with_reducible assumption | with_reducible apply I.sendPositions

theorem resendMissing (n : Line) (c : OutCall) (hs : I.holds s) : I.holds (s.resendMissing n c) := by
  unfold State.resendMissing
  repeat' first | with_reducible assumption | with_reducible apply I.sendPositions

theorem sendPageEnd (n : Line) (c : OutCall) (page : Nat) (hs : I.holds s) :
    I.holds (s.sendPageEnd n c page) := by
  unfold State.sendPageEnd
  try dsimp only
  repeat' first
    | with_reducible assumption
    | with_reducible apply I.setOut
    | with_reducible apply I.sendFrame
    | with_reducible apply I.startTimer
    | split

theorem nextBurst (n : Line) (c : OutCall) (r : Recoder) (hs : I.holds s) :
    I.holds (s.nextBurst n c r) := by
  unfold State.nextBurst
  try dsimp only
  repeat' first
    | with_reducible assumption
    | with_reducible apply I.setChan
    | with_reducible apply I.sendPageEnd
    | with_reducible apply I.sendBurst
    | split

theorem stepDown (n : Line) (c : OutCall) (hs : I.holds s) : I.holds (s.stepDown n c) := by
  unfold State.stepDown
  repeat' first
    | with_reducible assumption
    | with_reducible apply I.byeAndEnd
    | with_reducible apply I.setOut
    | with_reducible apply I.sendFrame
    | with_reducible apply I.train
    | split

theorem tallyAction (n : Line) (c : OutCall) (hs : I.holds s) : I.holds (s.tallyAction n c) := by
  unfold State.tallyAction
  repeat' first
    | with_reducible assumption
    | with_reducible apply I.nextBurst
    | with_reducible apply I.resendMissing
    | with_reducible apply I.stepDown
    | split

theorem beginHold (n : Line) (c : OutCall) (secs : Nat) (hs : I.holds s) :
    I.holds (s.beginHold n c secs) := by
  unfold State.beginHold
  repeat' first
    | with_reducible assumption
    | with_reducible apply I.setOut
    | with_reducible apply I.startTimer

theorem endHold (n : Line) (c : OutCall) (hs : I.holds s) : I.holds (s.endHold n c) := by
  unfold State.endHold
  try dsimp only
  repeat' first
    | with_reducible assumption
    | with_reducible apply I.stopTimer
    | with_reducible apply I.setOut
    | with_reducible apply I.byeAndEnd
    | with_reducible apply I.tallyAction
    | split

theorem openPage (n : Line) (c : OutCall) (p : Page) (hs : I.holds s) : I.holds (s.openPage n c p) := by
  unfold State.openPage
  try dsimp only
  repeat' first
    | with_reducible assumption
    | with_reducible apply I.setOut
    | with_reducible apply I.sendFrame
    | with_reducible apply I.addHolder
    | with_reducible apply I.setChan
    | with_reducible apply I.nextBurst
    | split

theorem enterPageWait (n : Line) (c : OutCall) (hs : I.holds s) : I.holds (s.enterPageWait n c) := by
  unfold State.enterPageWait
  repeat' first
    | with_reducible assumption
    | with_reducible apply I.setOut
    | with_reducible apply I.startTimer
    | split

theorem stopWaits (n : Line) (hs : I.holds s) : I.holds (s.stopWaits n) := by
  unfold State.stopWaits
  repeat' first | with_reducible assumption | with_reducible apply I.stopTimer

theorem afterMore (n : Line) (c : OutCall) (hs : I.holds s) : I.holds (s.afterMore n c) := by
  unfold State.afterMore
  repeat' first
    | with_reducible assumption
    | with_reducible apply I.lastAndBye
    | with_reducible apply I.openPage
    | with_reducible apply I.enterPageWait
    | split

theorem tellLine (n : Line) (hs : I.holds s) : I.holds (s.tellLine n) := by
  unfold State.tellLine
  repeat' first
    | with_reducible assumption
    | with_reducible apply I.stopWaits
    | with_reducible apply I.openPage
    | with_reducible apply I.lastAndBye
    | split

theorem tellWaiting (hs : I.holds s) : I.holds s.tellWaiting := by
  unfold State.tellWaiting
  repeat' first
    | with_reducible assumption
    | (with_reducible refine I.foldl _ _ ?_ ?_)
    | with_reducible apply I.tellLine
    | intro _ _ _

theorem finishAfterPage (n : Line) (c : OutCall) (e : EndCause) (hs : I.holds s) :
    I.holds (s.finishAfterPage n c e) := by
  unfold State.finishAfterPage
  try dsimp only
  repeat' first
    | with_reducible assumption
    | with_reducible apply I.setOut
    | with_reducible apply I.stopWaits
    | with_reducible apply I.lastAndBye
    | split

theorem requestFinish (n : Line) (e : EndCause) (now : Bool) (hs : I.holds s) :
    I.holds (s.requestFinish n e now) := by
  unfold State.requestFinish
  repeat' first
    | with_reducible assumption
    | with_reducible apply I.stopDialling
    | with_reducible apply I.hangUp
    | with_reducible apply I.train
    | with_reducible apply I.byeAndEnd
    | with_reducible apply I.pump
    | with_reducible apply I.finishAfterPage
    | split

theorem reportLimit (a : Fin 64) (hs : I.holds s) : I.holds (s.reportLimit a) := by
  unfold State.reportLimit
  repeat' first
    | with_reducible assumption
    | (with_reducible refine I.foldl _ _ ?_ ?_)
    | with_reducible apply I.requestFinish
    | intro _ _ _
    | split

theorem testLimit (a : Fin 64) (hs : I.holds s) : I.holds (s.testLimit a) := by
  unfold State.testLimit
  repeat' first
    | with_reducible assumption
    | with_reducible apply I.markLimit
    | with_reducible apply I.reportLimit
    | split

theorem engine (r : EngineRequest) (hs : I.holds s) : I.holds (s.engine r) := by
  unfold State.engine
  repeat' first | with_reducible assumption | with_reducible apply I.emit

theorem handItem (i : PrintItem) (hs : I.holds s) : I.holds (s.handItem i) := by
  unfold State.handItem
  repeat' first
    | with_reducible assumption
    | with_reducible apply I.setPrinter
    | with_reducible apply I.engine

theorem enterStandby (hs : I.holds s) : I.holds s.enterStandby := by
  unfold State.enterStandby
  repeat' first
    | with_reducible assumption
    | with_reducible apply I.setPrinter
    | with_reducible apply I.engine

theorem startStandby (hs : I.holds s) : I.holds s.startStandby := by
  unfold State.startStandby
  repeat' first
    | with_reducible assumption
    | with_reducible apply I.enterStandby
    | with_reducible apply I.setPrinter
    | split

theorem beginPrinting (hs : I.holds s) : I.holds s.beginPrinting := by
  unfold State.beginPrinting
  try dsimp only
  repeat' first
    | with_reducible assumption
    | with_reducible apply I.setPrinter
    | with_reducible apply I.handItem
    | split

theorem wakeEngine (hs : I.holds s) : I.holds s.wakeEngine := by
  unfold State.wakeEngine
  try dsimp only
  repeat' first
    | with_reducible assumption
    | with_reducible apply I.beginPrinting
    | with_reducible apply I.setPrinter
    | with_reducible apply I.engine
    | split

theorem tryBegin (hs : I.holds s) : I.holds s.tryBegin := by
  unfold State.tryBegin
  try dsimp only
  repeat' first
    | with_reducible assumption
    | with_reducible apply I.beginPrinting
    | with_reducible apply I.wakeEngine
    | split

theorem queuePrint (id : Nat) (hs : I.holds s) : I.holds (s.queuePrint id) := by
  unfold State.queuePrint
  repeat' first
    | with_reducible assumption
    | with_reducible apply I.setPrinter
    | with_reducible apply I.addHolder
    | with_reducible apply I.putFlag

theorem routePage (p : Page) (hs : I.holds s) : I.holds (s.routePage p) := by
  unfold State.routePage
  try dsimp only
  repeat' first
    | with_reducible assumption
    | with_reducible apply I.queuePrint
    | with_reducible apply I.tryBegin
    | with_reducible apply I.addHolder
    | with_reducible apply I.stage
    | split

theorem handNext (i : PrintItem) (hs : I.holds s) : I.holds (s.handNext i) := by
  unfold State.handNext
  repeat' first
    | with_reducible assumption
    | with_reducible apply I.setPrinter
    | with_reducible apply I.handItem
    | split

theorem pagePrinted (e : PrintEntry) (es : List PrintEntry) (hs : I.holds s) :
    I.holds (s.pagePrinted e es) := by
  unfold State.pagePrinted
  try dsimp only
  repeat' first
    | with_reducible assumption
    | with_reducible apply I.setPrinter
    | with_reducible apply I.dropHolder
    | with_reducible apply I.stage
    | with_reducible apply I.putFlag
    | with_reducible apply I.startStandby
    | with_reducible apply I.tryBegin
    | split

theorem nextItem (e : PrintEntry) (d : Decoder) (p : Page) (hs : I.holds s) :
    I.holds (s.nextItem e d p) := by
  unfold State.nextItem
  try dsimp only
  repeat' first
    | with_reducible assumption
    | with_reducible apply I.handNext
    | with_reducible apply I.setPrinter
    | split

theorem accept (i : PrintItem) (hs : I.holds s) : I.holds (s.accept i) := by
  unfold State.accept
  try dsimp only
  repeat' first
    | with_reducible assumption
    | with_reducible apply I.setPrinter
    | with_reducible apply I.pagePrinted
    | with_reducible apply I.nextItem
    | split

theorem printFault (cause : PrinterCause) (hs : I.holds s) : I.holds (s.printFault cause) := by
  unfold State.printFault
  try dsimp only
  repeat' first
    | with_reducible assumption
    | with_reducible apply I.setPrinter
    | with_reducible apply I.engine
    | with_reducible apply I.stage
    | with_reducible apply I.tryBegin
    | split

theorem notePaper (out : Bool) (hs : I.holds s) : I.holds (s.notePaper out) := by
  unfold State.notePaper
  repeat' first
    | with_reducible assumption
    | with_reducible apply I.setPrinter
    | with_reducible apply I.putFlag
    | with_reducible apply I.stage
    | split

theorem takePaper (out : Bool) (hs : I.holds s) : I.holds (s.takePaper out) := by
  unfold State.takePaper
  try dsimp only
  repeat' first
    | with_reducible assumption
    | with_reducible apply I.notePaper
    | with_reducible apply I.printFault
    | with_reducible apply I.tryBegin
    | split

theorem closeBurst (p : Page) (hs : I.holds s) : I.holds (s.closeBurst p) := by
  unfold State.closeBurst
  repeat' first
    | with_reducible assumption
    | with_reducible apply I.putPage
    | with_reducible apply I.returnBlocks

theorem trimBurst (p : Page) (last : Nat) (hs : I.holds s) : I.holds (s.trimBurst p last) := by
  unfold State.trimBurst
  try dsimp only
  repeat' first
    | with_reducible assumption
    | with_reducible apply I.putPage
    | with_reducible apply I.returnBlocks

theorem endReceived (n : Line) (id : Nat) (st : PageState) (hs : I.holds s) :
    I.holds (s.endReceived n id st) := by
  unfold State.endReceived
  try dsimp only
  repeat' first
    | with_reducible assumption
    | with_reducible apply I.closeBurst
    | with_reducible apply I.putPage
    | with_reducible apply I.routePage
    | with_reducible apply I.dropHolder
    | split

theorem endIncoming (n : Line) (hs : I.holds s) : I.holds (s.endIncoming n) := by
  unfold State.endIncoming
  try dsimp only
  repeat' first
    | with_reducible assumption
    | with_reducible apply I.emit
    | with_reducible apply I.pump
    | with_reducible apply I.enterClear
    | with_reducible apply I.endReceived
    | split

theorem callerLost (n : Line) (hs : I.holds s) : I.holds (s.callerLost n) := by
  unfold State.callerLost
  repeat' first | with_reducible assumption | with_reducible apply I.endIncoming

theorem answer (n : Line) (hs : I.holds s) : I.holds (s.answer n) := by
  unfold State.answer
  repeat' first
    | with_reducible assumption
    | with_reducible apply I.setChan
    | with_reducible apply I.emit
    | with_reducible apply I.pump
    | with_reducible apply I.startTimer

theorem countRing (n : Line) (rings : Nat) (hs : I.holds s) : I.holds (s.countRing n rings) := by
  unfold State.countRing
  try dsimp only
  repeat' first
    | with_reducible assumption
    | with_reducible apply I.setChan
    | with_reducible apply I.startTimer
    | with_reducible apply I.answer
    | split

theorem restartSilence (n : Line) (c : InCall) (hs : I.holds s) : I.holds (s.restartSilence n c) := by
  unfold State.restartSilence
  repeat' first | with_reducible assumption | with_reducible apply I.startTimer | split

theorem greetCaller (n : Line) (c : InCall) (hs : I.holds s) : I.holds (s.greetCaller n c) := by
  unfold State.greetCaller
  try dsimp only
  repeat' first
    | with_reducible assumption
    | with_reducible apply I.setIn
    | with_reducible apply I.setChanState
    | with_reducible apply I.sendFrame
    | with_reducible apply I.startTimer

theorem takeTerms (n : Line) (c : InCall) (ceiling : Rate) (tag : List Byte) (hs : I.holds s) :
    I.holds (s.takeTerms n c ceiling tag) := by
  unfold State.takeTerms
  try dsimp only
  repeat' first
    | with_reducible assumption
    | with_reducible apply I.setIn
    | with_reducible apply I.startTimer
    | with_reducible apply I.sendFrame
    | with_reducible apply I.accept
    | with_reducible apply I.setChanState
    | with_reducible apply I.train
    | with_reducible apply I.stopTimer
    | with_reducible apply I.endIncoming
    | split

theorem takeBlock (n : Line) (c : InCall) (pos : Nat) (data : List Byte) (hs : I.holds s) :
    I.holds (s.takeBlock n c pos data) := by
  unfold State.takeBlock
  repeat' split
  all_goals first | with_reducible assumption | skip
  rename_i e
  exact I.setIn _ _ (I.writeBytes _ _ _ _ rfl (I.receiveGrant hs e))

theorem tallyEmpty (n : Line) (c : InCall) (bit : Bool) (hs : I.holds s) :
    I.holds (s.tallyEmpty n c bit) := by
  unfold State.tallyEmpty
  try dsimp only
  repeat' first
    | with_reducible assumption
    | with_reducible apply I.setIn
    | with_reducible apply I.sendFrame

theorem tallyBurst (n : Line) (p : Page) (last : Nat) (bit : Bool) (hs : I.holds s) :
    I.holds (s.tallyBurst n p last bit) := by
  unfold State.tallyBurst
  try dsimp only
  repeat' first
    | with_reducible assumption
    | with_reducible apply I.trimBurst
    | with_reducible apply I.setIn
    | with_reducible apply I.sendFrame
    | with_reducible apply I.putPage
    | split

theorem takeCheck (n : Line) (c : InCall) (last : Nat) (bit : Bool) (hs : I.holds s) :
    I.holds (s.takeCheck n c last bit) := by
  unfold State.takeCheck
  repeat' first
    | with_reducible assumption
    | with_reducible apply I.tallyEmpty
    | with_reducible apply I.tallyBurst
    | split

theorem takePageHead (n : Line) (c : InCall) (w : Nat) (res : Resolution) (lines : Nat) (hs : I.holds s) :
    I.holds (s.takePageHead n c w res lines) := by
  unfold State.takePageHead
  repeat' first
    | with_reducible assumption
    | exact I.createPage hs ‹_›
    | with_reducible apply I.sendFrame
    | with_reducible apply I.setIn
    | split

theorem takePageEnd (n : Line) (c : InCall) (last bit : Bool) (hs : I.holds s) :
    I.holds (s.takePageEnd n c last bit) := by
  unfold State.takePageEnd
  try dsimp only
  repeat' first
    | with_reducible assumption
    | with_reducible apply I.startTimer
    | with_reducible apply I.setIn
    | with_reducible apply I.sendFrame
    | with_reducible apply I.endReceived
    | split

theorem countAdjusted (id : Nat) (hs : I.holds s) : I.holds (s.countAdjusted id) := by
  unfold State.countAdjusted
  repeat' first | with_reducible assumption | with_reducible apply I.putPage | split

theorem completePage (id : Nat) (party : CodingParty) (hs : I.holds s) :
    I.holds (s.completePage id party) := by
  unfold State.completePage
  repeat' first
    | with_reducible assumption
    | with_reducible apply I.putPage
    | with_reducible apply I.dropHolder
    | with_reducible apply I.requestPass
    | with_reducible apply I.tellWaiting
    | split

theorem idleContext (party : CodingParty) (hs : I.holds s) : I.holds (s.idleContext party) := by
  unfold State.idleContext
  repeat' first
    | with_reducible assumption
    | with_reducible apply I.setScanCtx
    | (with_reducible refine I.setStore ?_ ?_)
    | with_reducible apply I.setLinkCtx
    | split
    | rfl

theorem spoilPage_snd (p : Page) (h : I.holds s) : I.holds (s.spoilPage p).2 := by
  unfold State.spoilPage
  refine I.tellWaiting (I.foldl _ _ (I.dropHolder _ _ (I.foldl _ _ (I.idleContext _ (I.putPage _ h)) ?_)) ?_)
  · exact fun t j ht => I.unlistPage _ _ ht
  · exact fun t j ht => I.afterPageLoss _ ht

theorem spoilPage {p : Page} {jobs : Nat} {t : State} (h : I.holds s)
    (e : s.spoilPage p = (jobs, t)) : I.holds t := by
  have := I.spoilPage_snd p h
  rwa [e] at this

theorem codeLinkLine (c : Coding) (tag : Byte) (arrived : List Nat) (hs : I.holds s) :
    I.holds (s.codeLinkLine c tag arrived) := by
  unfold State.codeLinkLine
  try dsimp only
  repeat' first
    | with_reducible assumption
    | with_reducible apply I.countAdjusted
    | exact I.writeChain ‹_› ‹_›
    | with_reducible apply I.writeChain_fst
    | with_reducible apply I.setLinkCtx
    | with_reducible apply I.countLine
    | exact I.spoilPage ‹_› ‹_›
    | with_reducible apply I.spoilPage_snd
    | with_reducible apply I.stage
    | split

theorem setPort (p : PortState) (hs : I.holds s) : I.holds (s.setPort p) := by
  unfold State.setPort
  repeat' first | with_reducible assumption | with_reducible apply I.setScanner

theorem refuseStart (c : RefusalCode) (hs : I.holds s) : I.holds (s.refuseStart c) := by
  unfold State.refuseStart
  repeat' first
    | with_reducible assumption
    | with_reducible apply I.emit
    | with_reducible apply I.setPort
    | with_reducible apply I.stage

theorem startScan (width resolution : Nat) (hs : I.holds s) :
    I.holds (s.startScan width resolution) := by
  unfold State.startScan
  repeat' first
    | with_reducible assumption
    | with_reducible apply I.refuseStart
    | exact I.createPage hs ‹_›
    | with_reducible apply I.setScanCtx
    | with_reducible apply I.setPort
    | with_reducible apply I.stage
    | split

theorem jamPage (hs : I.holds s) : I.holds s.jamPage := by
  unfold State.jamPage
  try dsimp only
  repeat' first
    | with_reducible assumption
    | exact I.spoilPage ‹_› ‹_›
    | with_reducible apply I.spoilPage_snd
    | with_reducible apply I.stage
    | split

theorem codeScanLine (pixels : List Bool) (hs : I.holds s) : I.holds (s.codeScanLine pixels) := by
  unfold State.codeScanLine
  try dsimp only
  repeat' first
    | with_reducible assumption
    | with_reducible apply I.countAdjusted
    | with_reducible apply I.setScanCtx
    | with_reducible apply I.writeScanHeld
    | split

theorem endScan (hs : I.holds s) : I.holds s.endScan := by
  unfold State.endScan
  try dsimp only
  repeat' first
    | with_reducible assumption
    | with_reducible apply I.setPort
    | with_reducible apply I.setScanCtx
    | with_reducible apply I.completePage
    | with_reducible apply I.stage
    | split

theorem takeTransfer (t : ScanTransfer) (hs : I.holds s) : I.holds (s.takeTransfer t) := by
  unfold State.takeTransfer
  repeat' first
    | with_reducible assumption
    | with_reducible apply I.jamPage
    | with_reducible apply I.flushNotices
    | with_reducible apply I.startScan
    | with_reducible apply I.codeScanLine
    | with_reducible apply I.endScan
    | with_reducible apply I.setPort
    | split

theorem takePresented (hs : I.holds s) : I.holds s.takePresented := by
  unfold State.takePresented
  repeat' first
    | with_reducible assumption
    | with_reducible apply I.setScanner
    | with_reducible apply I.takeTransfer
    | split

theorem present (t : ScanTransfer) (hs : I.holds s) : I.holds (s.present t) := by
  unfold State.present
  repeat' first
    | with_reducible assumption
    | with_reducible apply I.setScanner
    | with_reducible apply I.takeTransfer
    | split

theorem readyLine (n : Line) (hs : I.holds s) : I.holds (s.readyLine n) := by
  unfold State.readyLine
  repeat' first | with_reducible assumption | with_reducible apply I.enterIdle | split

theorem readyPrinter (hs : I.holds s) : I.holds s.readyPrinter := by
  unfold State.readyPrinter
  try dsimp only
  repeat' first
    | with_reducible assumption
    | with_reducible apply I.takePaper
    | with_reducible apply I.startStandby
    | split

theorem requestByte (l : Load) (hs : I.holds s) : I.holds (s.requestByte l) := by
  unfold State.requestByte
  repeat' first
    | with_reducible assumption
    | with_reducible apply I.setLoader
    | with_reducible apply I.emit

theorem resetLines (hs : I.holds s) : I.holds s.resetLines := by
  unfold State.resetLines
  repeat' first
    | with_reducible assumption
    | (with_reducible refine I.foldl _ _ ?_ ?_)
    | with_reducible apply I.emit
    | with_reducible apply I.pump
    | intro _ _ _

theorem restartCharge (n : Line) (hs : I.holds s) : I.holds (s.restartCharge n) := by
  unfold State.restartCharge
  repeat' first
    | with_reducible assumption
    | with_reducible apply I.issueTicket
    | with_reducible apply I.releaseSlot
    | split

theorem restartLine (n : Line) (hs : I.holds s) : I.holds (s.restartLine n) := by
  unfold State.restartLine
  try dsimp only
  repeat' first
    | with_reducible assumption
    | with_reducible apply I.restartCharge
    | with_reducible apply I.emit
    | with_reducible apply I.pump
    | with_reducible apply I.setChan
    | with_reducible apply I.putLineFree
    | split

theorem restartPrinter (hs : I.holds s) : I.holds s.restartPrinter := by
  unfold State.restartPrinter
  try dsimp only
  repeat' first
    | with_reducible assumption
    | with_reducible apply I.engine
    | with_reducible apply I.setPrinter
    | with_reducible apply I.putFlag
    | split

theorem restartStore (hs : I.holds s) : I.holds s.restartStore := by
  unfold State.restartStore
  try dsimp only
  repeat' first
    | with_reducible assumption
    | (with_reducible refine I.setStore ?_ ?_)
    | with_reducible apply I.clearStoreLow
    | split
    | rfl

theorem restartIntake (hs : I.holds s) : I.holds s.restartIntake := by
  unfold State.restartIntake
  try dsimp only
  repeat' first
    | with_reducible assumption
    | with_reducible apply I.setScanCtx
    | with_reducible apply I.setLinkCtx
    | with_reducible apply I.setPort
    | split

theorem restartFlags (hs : I.holds s) : I.holds s.restartFlags := by
  unfold State.restartFlags
  try dsimp only
  repeat' first
    | with_reducible assumption
    | (with_reducible refine I.setDisp ?_ ?_)
    | with_reducible apply I.refindBand
    | split
    | rfl

theorem changeBudget (a : Fin 64) (budget : Nat) (hs : I.holds s) :
    I.holds (s.changeBudget a budget) := by
  unfold State.changeBudget
  try dsimp only
  repeat' first
    | with_reducible assumption
    | with_reducible apply I.setAccount
    | with_reducible apply I.markLimit
    | with_reducible apply I.reportLimit
    | split

theorem addJob (j : Job) (hs : I.holds s) : I.holds (s.addJob j) := by
  unfold State.addJob
  repeat' first
    | with_reducible assumption
    | with_reducible apply I.setJobs
    | with_reducible apply I.requestPass

theorem tellJob (job : Nat) (hs : I.holds s) : I.holds (s.tellJob job) := by
  unfold State.tellJob
  repeat' first
    | with_reducible assumption
    | (with_reducible refine I.foldl _ _ ?_ ?_)
    | with_reducible apply I.tellLine
    | intro _ _ _
    | split

theorem attachPage (j : Job) (p : Page) (hs : I.holds s) : I.holds (s.attachPage j p) := by
  unfold State.attachPage
  try dsimp only
  repeat' first
    | with_reducible assumption
    | with_reducible apply I.putJob
    | with_reducible apply I.addHolder
    | with_reducible apply I.requestPass
    | with_reducible apply I.tellJob
    | split

theorem closeJob (j : Job) (hs : I.holds s) : I.holds (s.closeJob j) := by
  unfold State.closeJob
  repeat' first
    | with_reducible assumption
    | with_reducible apply I.putJob
    | with_reducible apply I.tellJob
    | with_reducible apply I.settleJob

theorem cancelLines (job : Nat) (st : Strength) (hs : I.holds s) : I.holds (s.cancelLines job st) := by
  unfold State.cancelLines
  repeat' first
    | with_reducible assumption
    | (with_reducible refine I.foldl _ _ ?_ ?_)
    | with_reducible apply I.requestFinish
    | intro _ _ _
    | split

theorem cancelJob (j : Job) (st : Strength) (hs : I.holds s) : I.holds (s.cancelJob j st) := by
  unfold State.cancelJob
  try dsimp only
  repeat' first
    | with_reducible assumption
    | with_reducible apply I.putJob
    | with_reducible apply I.cancelLines
    | with_reducible apply I.settleJob

theorem abortPage_snd (p : Page) (h : I.holds s) : I.holds (s.abortPage p).2 := by
  have h1 := I.spoilPage_snd p h
  unfold State.abortPage
  by_cases hp : p.source = .scan
  · simp only [hp, if_true]; exact I.setPort _ h1
  · simp only [hp, if_false]; exact h1

theorem setHostFlags (change value : BitVec 16) (hs : I.holds s) :
    I.holds (s.setHostFlags change value) := by
  unfold State.setHostFlags
  try dsimp only
  repeat' first
    | with_reducible assumption
    | (with_reducible refine I.setDisp ?_ ?_)
    | with_reducible apply I.refindBand
    | split
    | rfl

theorem putService (n : Line) (inService stopPending : Bool) (hs : I.holds s) :
    I.holds (s.putService n inService stopPending) := by
  unfold State.putService
  repeat' first | with_reducible assumption | with_reducible apply I.setLineEntry

theorem outOfService (n : Line) (hs : I.holds s) : I.holds (s.outOfService n) := by
  unfold State.outOfService
  repeat' first
    | with_reducible assumption
    | with_reducible apply I.setChan
    | with_reducible apply I.putService
    | with_reducible apply I.putLineFree

theorem resetCall (n : Line) (hs : I.holds s) : I.holds (s.resetCall n) := by
  unfold State.resetCall
  repeat' first
    | with_reducible assumption
    | with_reducible apply I.endOutgoing
    | with_reducible apply I.endIncoming
    | with_reducible apply I.pump
    | split

theorem resetLine (n : Line) (hs : I.holds s) : I.holds (s.resetLine n) := by
  unfold State.resetLine
  try dsimp only
  repeat' first
    | with_reducible assumption
    | with_reducible apply I.outOfService
    | with_reducible apply I.pump
    | with_reducible apply I.train
    | with_reducible apply I.resetCall
    | with_reducible apply I.setChan
    | with_reducible apply I.putService
    | with_reducible apply I.enterIdle
    | split

theorem takeJam (hs : I.holds s) : I.holds s.takeJam := by
  unfold State.takeJam
  repeat' first
    | with_reducible assumption
    | with_reducible apply I.jamPage
    | with_reducible apply I.flushNotices
    | with_reducible apply I.setPort
    | split

theorem takeRing (n : Line) (hs : I.holds s) : I.holds (s.takeRing n) := by
  unfold State.takeRing
  try dsimp only
  repeat' first
    | with_reducible assumption
    | with_reducible apply I.putLineFree
    | with_reducible apply I.countRing
    | with_reducible apply I.outOfService
    | with_reducible apply I.train
    | split

theorem answered (n : Line) (c : OutCall) (hs : I.holds s) : I.holds (s.answered n c) := by
  unfold State.answered
  try dsimp only
  repeat' first
    | with_reducible assumption
    | with_reducible apply I.stopDialling
    | with_reducible apply I.stopTimer
    | with_reducible apply I.answer
    | with_reducible apply I.setOut
    | with_reducible apply I.setChanState
    | with_reducible apply I.startTimer
    | with_reducible apply I.chargeAnswer
    | with_reducible apply I.testLimit

theorem callerTrained (n : Line) (c : OutCall) (r : Rate) (hs : I.holds s) :
    I.holds (s.callerTrained n c r) := by
  unfold State.callerTrained
  try dsimp only
  repeat' first
    | with_reducible assumption
    | with_reducible apply I.stopTimer
    | with_reducible apply I.train
    | with_reducible apply I.setOut
    | with_reducible apply I.setChanState
    | with_reducible apply I.openPage
    | split

theorem callerRetrained (n : Line) (c : OutCall) (r : Rate) (hs : I.holds s) :
    I.holds (s.callerRetrained n c r) := by
  unfold State.callerRetrained
  try dsimp only
  repeat' first
    | with_reducible assumption
    | with_reducible apply I.stopTimer
    | with_reducible apply I.train
    | with_reducible apply I.sendPositions
    | with_reducible apply I.stepDown
    | with_reducible apply I.resendMissing
    | split

theorem calleeTrained (n : Line) (c : InCall) (r : Rate) (hs : I.holds s) :
    I.holds (s.calleeTrained n c r) := by
  unfold State.calleeTrained
  repeat' first
    | with_reducible assumption
    | with_reducible apply I.stopTimer
    | with_reducible apply I.train
    | with_reducible apply I.setIn
    | with_reducible apply I.setChanState
    | with_reducible apply I.startTimer

theorem calleeRetrained (n : Line) (c : InCall) (r : Rate) (hs : I.holds s) :
    I.holds (s.calleeRetrained n c r) := by
  unfold State.calleeRetrained
  repeat' first
    | with_reducible assumption
    | with_reducible apply I.stopTimer
    | with_reducible apply I.train
    | with_reducible apply I.setIn
    | with_reducible apply I.startTimer

theorem sendTerms (n : Line) (form : Form) (ceiling : Rate) (hs : I.holds s) :
    I.holds (s.sendTerms n form ceiling) := by
  unfold State.sendTerms
  repeat' first
    | with_reducible assumption
    | with_reducible apply I.sendFrame
    | with_reducible apply I.startTimer

theorem recordTag (c : OutCall) (tag : List Byte) (hs : I.holds s) : I.holds (s.recordTag c tag) := by
  unfold State.recordTag
  repeat' first | with_reducible assumption | with_reducible apply I.putJob | split

theorem takeCaps (n : Line) (c : OutCall) (caps : Caps) (tag : List Byte) (hs : I.holds s) :
    I.holds (s.takeCaps n c caps tag) := by
  unfold State.takeCaps
  try dsimp only
  repeat' first
    | with_reducible assumption
    | with_reducible apply I.sendTerms
    | with_reducible apply I.stopTimer
    | with_reducible apply I.setOut
    | with_reducible apply I.recordTag
    | split

theorem callerRetrain (n : Line) (c : OutCall) (r : Rate) (hs : I.holds s) :
    I.holds (s.callerRetrain n c r) := by
  unfold State.callerRetrain
  try dsimp only
  repeat' first
    | with_reducible assumption
    | with_reducible apply I.stopTimer
    | with_reducible apply I.setOut
    | with_reducible apply I.train

theorem calleeRetrain (n : Line) (c : InCall) (r : Rate) (hs : I.holds s) :
    I.holds (s.calleeRetrain n c r) := by
  unfold State.calleeRetrain
  try dsimp only
  repeat' first
    | with_reducible assumption
    | with_reducible apply I.stopTimer
    | with_reducible apply I.setIn
    | with_reducible apply I.train

theorem takeTally (n : Line) (c : OutCall) (missing : BitVec 32) (hold : Nat) (hs : I.holds s) :
    I.holds (s.takeTally n c missing hold) := by
  unfold State.takeTally
  try dsimp only
  repeat' first
    | with_reducible assumption
    | with_reducible apply I.stopTimer
    | with_reducible apply I.setOut
    | with_reducible apply I.tallyAction
    | with_reducible apply I.beginHold
    | split

theorem countDelivered (c : OutCall) (hs : I.holds s) : I.holds (s.countDelivered c) := by
  unfold State.countDelivered
  repeat' first | with_reducible assumption | with_reducible apply I.putJob | split

theorem takeTaken (n : Line) (c : OutCall) (hs : I.holds s) : I.holds (s.takeTaken n c) := by
  unfold State.takeTaken
  try dsimp only
  repeat' first
    | with_reducible assumption
    | with_reducible apply I.stopTimer
    | with_reducible apply I.countDelivered
    | with_reducible apply I.setOut
    | with_reducible apply I.setChan
    | with_reducible apply I.dropHolder
    | with_reducible apply I.byeAndEnd
    | with_reducible apply I.afterMore
    | split

theorem tallyExpiry (n : Line) (c : OutCall) (hs : I.holds s) : I.holds (s.tallyExpiry n c) := by
  unfold State.tallyExpiry
  repeat' first
    | with_reducible assumption
    | with_reducible apply I.setOut
    | with_reducible apply I.sendFrame
    | with_reducible apply I.startTimer
    | with_reducible apply I.hangUp
    | split

theorem pageEndExpiry (n : Line) (c : OutCall) (hs : I.holds s) : I.holds (s.pageEndExpiry n c) := by
  unfold State.pageEndExpiry
  repeat' first
    | with_reducible assumption
    | with_reducible apply I.setOut
    | with_reducible apply I.sendFrame
    | with_reducible apply I.startTimer
    | with_reducible apply I.hangUp
    | split

theorem endGuard (n : Line) (hs : I.holds s) : I.holds (s.endGuard n) := by
  unfold State.endGuard
  try dsimp only
  repeat' first
    | with_reducible assumption
    | with_reducible apply I.setChan
    | with_reducible apply I.outOfService
    | with_reducible apply I.setLineEntry
    | with_reducible apply I.stage
    | with_reducible apply I.enterIdle
    | split

theorem endRestartGuard (n : Line) (hs : I.holds s) : I.holds (s.endRestartGuard n) := by
  unfold State.endRestartGuard
  repeat' first
    | with_reducible assumption
    | with_reducible apply I.outOfService
    | with_reducible apply I.enterIdle
    | split

theorem bind (j : Job) (i : Nat) (d : Dest) (r : Route) (n : Line) (hs : I.holds s) :
    I.holds (s.bind j i d r n) := by
  unfold State.bind
  try dsimp only
  repeat' first
    | with_reducible assumption
    | with_reducible apply I.putJob
    | with_reducible apply I.takeSlot
    | with_reducible apply I.setChan
    | with_reducible apply I.emit
    | with_reducible apply I.startTimer
    | with_reducible apply I.putLineFree

theorem decide (j : Job) (i : Nat) (d : Dest) (st : DestState) (o : CallOutcome) (r : Option Route) (hs : I.holds s) :
    I.holds (s.decide j i d st o r) := by
  unfold State.decide
  repeat' first
    | with_reducible assumption
    | with_reducible apply I.putJob
    | with_reducible apply I.settleJob

theorem consider (j : Job) (i : Nat) (d : Dest) (hs : I.holds s) : I.holds (s.consider j i d) := by
  unfold State.consider
  repeat' first
    | with_reducible assumption
    | with_reducible apply I.decide
    | with_reducible apply I.bind
    | with_reducible apply I.putJob
    | split

theorem turn (x : Nat × Nat) (hs : I.holds s) : I.holds (s.turn x) := by
  unfold State.turn
  repeat' first | with_reducible assumption | with_reducible apply I.consider | split

theorem queueStaged (h : I.holds s) : I.holds s.queueStaged := I.setStaged _ (I.queueNotices _ h)

theorem takePass (hs : I.holds s) : I.holds s.takePass := by
  unfold State.takePass
  repeat' first
    | with_reducible assumption
    | (with_reducible refine I.foldl _ _ ?_ ?_)
    | with_reducible apply I.turn
    | (with_reducible refine I.setDisp ?_ ?_)
    | with_reducible apply I.queueStaged
    | intro _ _ _
    | rfl

theorem takeReady (hs : I.holds s) : I.holds s.takeReady := by
  unfold State.takeReady
  try dsimp only
  repeat' first
    | with_reducible assumption
    | with_reducible apply I.setPrinter
    | with_reducible apply I.handItem
    | with_reducible apply I.tryBegin
    | split

theorem takeFall (hs : I.holds s) : I.holds s.takeFall := by
  unfold State.takeFall
  try dsimp only
  repeat' first | with_reducible assumption | with_reducible apply I.setPrinter | split

theorem reportPaper (out : Bool) (hs : I.holds s) : I.holds (s.reportPaper out) := by
  unfold State.reportPaper
  try dsimp only
  repeat' first
    | with_reducible assumption
    | with_reducible apply I.setPrinter
    | with_reducible apply I.takePaper
    | split

theorem takePrinterJam (hs : I.holds s) : I.holds s.takePrinterJam := by
  unfold State.takePrinterJam
  repeat' first
    | with_reducible assumption
    | with_reducible apply I.printFault
    | with_reducible apply I.stage
    | split

end Kept

end Sys2Proof.Machine
end

