-- ==== Sys2Proof/Laws/Lines.lean ====
section
/-! SUPPORT. Lines.lean: the four lines: what is read after one of them was written, and what the operations over a
channel leave in the other blocks of the state. -/

namespace Sys2Proof.Machine

@[simp] theorem PerLine.get_set_same {α : Type} (p : PerLine α) (n : Line) (a : α) :
    (p.set n a).get n = a := by
  match n with
  | 0 => rfl
  | 1 => rfl
  | 2 => rfl
  | 3 => rfl

theorem PerLine.get_set_other {α : Type} (p : PerLine α) (n k : Line) (a : α) (h : k ≠ n) :
    (p.set n a).get k = p.get k := by
  match n, k with
  | 0, 0 | 1, 1 | 2, 2 | 3, 3 => exact absurd rfl h
  | 0, 1 | 0, 2 | 0, 3 | 1, 0 | 1, 2 | 1, 3 | 2, 0 | 2, 1 | 2, 3 | 3, 0 | 3, 1 | 3, 2 => rfl

@[simp] theorem State.chan_setChan_same (s : State) (n : Line) (c : Channel) :
    (s.setChan n c).chan n = c := PerLine.get_set_same s.lines n c

theorem State.chan_setChan_other (s : State) (n k : Line) (c : Channel) (h : k ≠ n) :
    (s.setChan n c).chan k = s.chan k := PerLine.get_set_other s.lines n k c h

@[simp] theorem State.lineEntry_setLineEntry_same (s : State) (n : Line) (e : LineEntry) :
    (s.setLineEntry n e).lineEntry n = e := PerLine.get_set_same s.disp.lineTable n e

theorem State.lineEntry_setLineEntry_other (s : State) (n k : Line) (e : LineEntry) (h : k ≠ n) :
    (s.setLineEntry n e).lineEntry k = s.lineEntry k :=
  PerLine.get_set_other s.disp.lineTable n k e h

/-- A timer just started runs out when it was told to. -/
@[simp] theorem Channel.deadline_start_same (c : Channel) (t : Timer) (x : Nat) :
    (c.start t x).deadline t = some x := by
  simp [Channel.deadline, Channel.start]

/-- A timer stopped does not run. -/
@[simp] theorem Channel.deadline_stop_same (c : Channel) (t : Timer) : (c.stop t).deadline t = none := by
  simp [Channel.deadline, Channel.stop]

/-- Stopping one timer leaves every other timer as it was. -/
theorem Channel.deadline_stop_other (c : Channel) (t u : Timer) (h : u ≠ t) :
    (c.stop t).deadline u = c.deadline u := by
  unfold Channel.deadline Channel.stop
  congr 1
  induction c.timers with
  | nil => rfl
  | cons e es ih =>
    by_cases h1 : e.1 = t
    · have h2 : (t == u) = false := beq_false_of_ne (Ne.symm h)
      simp only [h1, bne_self_eq_false, Bool.false_eq_true, not_false_eq_true, List.filter_cons_of_neg,
        List.find?_cons, h2]
      exact ih
    · rw [List.filter_cons_of_pos (by simpa using h1), List.find?_cons, List.find?_cons, ih]

/-- Starting one timer leaves every other timer as it was. -/
theorem Channel.deadline_start_other (c : Channel) (t u : Timer) (x : Nat) (h : u ≠ t) :
    (c.start t x).deadline u = c.deadline u := by
  rw [← Channel.deadline_stop_other c t u h]
  simp [Channel.deadline, Channel.start, Ne.symm h]

end Sys2Proof.Machine
end

