-- ==== Sys2Proof/WellFormed.lean ====
section
/-! DEFINITION. WellFormed.lean: what the ports can carry. The types of the operands already bound lines, rates and
straps; what is left is checked here. The meanings are total: they also answer on ill-formed commands. -/

namespace Sys2Proof

/-- R210: a frame's head holds the content length in 2 bytes. -/
def frameFits (content : List Byte) : Bool := content.length ≤ 65535

/-- R61, R62: a destination is named by a job id, 1–65,535, and an index, 0–47. -/
def destNamed (job index : Nat) : Bool := 1 ≤ job && job ≤ 65535 && index ≤ 47

/-- R209: the scanner's width is a number of the width field's size, 2 bytes. -/
def scanWidthFits (width : Nat) : Bool := width ≤ 65535

/-- A command whose operands its port can carry. -/
def wellFormed : Instr → Bool
  | .caps _ _ c | .terms _ _ c | .accept _ _ c | .decline _ _ c | .retrain _ _ c | .pageHead _ _ c
  | .block _ _ c | .check _ _ c | .tally _ _ c | .resume _ _ c | .wait _ _ c | .more _ _ c
  | .last _ _ c | .taken _ _ c | .reject _ _ c | .bye _ _ c => frameFits c
  | .scannerPageStart w _ => scanWidthFits w
  | .nextAttemptTime j i => destNamed j i
  | .powerOn _ | .resetPin _ | .configByteRead _ | .configReadTimeout | .linkRecordArrival _ | .ident
  | .clockSet | .tariffLoad | .bandLoad | .dialPlanLoad | .dialPlanRemove | .lineSet | .settingsSet
  | .accountOpen | .accountSetBudget | .accountSuspend | .accountResume | .accountClear
  | .accountClose | .accountRead | .jobOpen | .destAdd | .pageAttach | .jobClose | .jobCancel
  | .jobRemove | .jobQuery | .pageOpen | .rasterLine | .pageClose | .pageAbort | .flagSet | .lineStop
  | .lineStart | .lineReset | .printPause | .printResume | .pageRead | .pageRelease | .status
  | .restart | .unknownKind | .outputHoldRelease | .outboundLinkFree | .scannerPixelLine _
  | .scannerPageEnd | .scannerJam | .ring _ | .tone _ | .dialDone _ | .busyTone _ | .voice _
  | .answerTone _ | .loopLost _ | .carrierLost _ | .trained _ _ | .dialToneWaitExpiry _
  | .pumpDialWaitExpiry _ | .pauseWaitExpiry _ | .answerWaitExpiry _ | .capsWaitExpiry _
  | .termsReplyWaitExpiry _ | .trainWaitExpiry _ | .tallyWaitExpiry _ | .holdTimerExpiry _
  | .waitKeepaliveExpiry _ | .pageWaitExpiry _ | .pageEndReplyWaitExpiry _ | .ringGapExpiry _
  | .answerToneWaitExpiry _ | .calleeSilenceLimitExpiry _ | .lastPageWaitExpiry _
  | .clearGuardExpiry _ | .restartGuardExpiry _ | .dispatchPass | .slotBoundary
  | .pulseTimerExpiry _ | .readyRises | .readyFalls | .paperChange _ | .printerJam | .lineAccepted
  | .printHoldTimerExpiry | .standbyTimerExpiry | .outputHoldAssert => true

end Sys2Proof
end

