-- ==== Sys2Proof/Laws/PerInstr.lean ====
section
/-! SUPPORT. PerInstr.lean: statements made of every command as syntax, one lemma for each constructor. -/

namespace Sys2Proof.Laws.PortLimits

/-- What the ports can carry, as a proposition: a frame's content below 2^16 bytes (R210), a reported width below 2^16
(R209), a job id of 1 to 65,535 and an index below 48 (R61, R62). -/
def Within : Instr → Prop
  | .caps _ _ c => c.length < 65536
  | .terms _ _ c => c.length < 65536
  | .accept _ _ c => c.length < 65536
  | .decline _ _ c => c.length < 65536
  | .retrain _ _ c => c.length < 65536
  | .pageHead _ _ c => c.length < 65536
  | .block _ _ c => c.length < 65536
  | .check _ _ c => c.length < 65536
  | .tally _ _ c => c.length < 65536
  | .resume _ _ c => c.length < 65536
  | .wait _ _ c => c.length < 65536
  | .more _ _ c => c.length < 65536
  | .last _ _ c => c.length < 65536
  | .taken _ _ c => c.length < 65536
  | .reject _ _ c => c.length < 65536
  | .bye _ _ c => c.length < 65536
  | .scannerPageStart w _ => w < 65536
  | .nextAttemptTime j i => (0 < j ∧ j < 65536) ∧ i < 48
  | _ => True

/-- A command is well-formed exactly where its ports can carry it. -/
def Statement (i : Instr) : Prop := wellFormed i = true ↔ Within i

theorem frameFits_iff (c : List Byte) : frameFits c = true ↔ c.length < 65536 := by
  unfold frameFits
  rw [decide_eq_true_iff]
  omega

theorem destNamed_iff (j i : Nat) : destNamed j i = true ↔ (0 < j ∧ j < 65536) ∧ i < 48 := by
  unfold destNamed
  rw [Bool.and_eq_true, Bool.and_eq_true, decide_eq_true_iff, decide_eq_true_iff, decide_eq_true_iff]
  omega

theorem scanWidthFits_iff (w : Nat) : scanWidthFits w = true ↔ w < 65536 := by
  unfold scanWidthFits
  rw [decide_eq_true_iff]
  omega

theorem always : true = true ↔ True := ⟨fun _ => trivial, fun _ => rfl⟩

theorem powerOn : ∀ straps, Statement (.powerOn straps) := fun _ => always
theorem resetPin : ∀ straps, Statement (.resetPin straps) := fun _ => always
theorem configByteRead : ∀ byte, Statement (.configByteRead byte) := fun _ => always
theorem configReadTimeout : Statement (.configReadTimeout) := always
theorem linkRecordArrival : ∀ bytes, Statement (.linkRecordArrival bytes) := fun _ => always
theorem ident : Statement (.ident) := always
theorem clockSet : Statement (.clockSet) := always
theorem tariffLoad : Statement (.tariffLoad) := always
theorem bandLoad : Statement (.bandLoad) := always
theorem dialPlanLoad : Statement (.dialPlanLoad) := always
theorem dialPlanRemove : Statement (.dialPlanRemove) := always
theorem lineSet : Statement (.lineSet) := always
theorem settingsSet : Statement (.settingsSet) := always
theorem accountOpen : Statement (.accountOpen) := always
theorem accountSetBudget : Statement (.accountSetBudget) := always
theorem accountSuspend : Statement (.accountSuspend) := always
theorem accountResume : Statement (.accountResume) := always
theorem accountClear : Statement (.accountClear) := always
theorem accountClose : Statement (.accountClose) := always
theorem accountRead : Statement (.accountRead) := always
theorem jobOpen : Statement (.jobOpen) := always
theorem destAdd : Statement (.destAdd) := always
theorem pageAttach : Statement (.pageAttach) := always
theorem jobClose : Statement (.jobClose) := always
theorem jobCancel : Statement (.jobCancel) := always
theorem jobRemove : Statement (.jobRemove) := always
theorem jobQuery : Statement (.jobQuery) := always
theorem pageOpen : Statement (.pageOpen) := always
theorem rasterLine : Statement (.rasterLine) := always
theorem pageClose : Statement (.pageClose) := always
theorem pageAbort : Statement (.pageAbort) := always
theorem flagSet : Statement (.flagSet) := always
theorem lineStop : Statement (.lineStop) := always
theorem lineStart : Statement (.lineStart) := always
theorem lineReset : Statement (.lineReset) := always
theorem printPause : Statement (.printPause) := always
theorem printResume : Statement (.printResume) := always
theorem pageRead : Statement (.pageRead) := always
theorem pageRelease : Statement (.pageRelease) := always
theorem status : Statement (.status) := always
theorem restart : Statement (.restart) := always
theorem unknownKind : Statement (.unknownKind) := always
theorem outputHoldRelease : Statement (.outputHoldRelease) := always
theorem outboundLinkFree : Statement (.outboundLinkFree) := always
theorem scannerPageStart : ∀ width resolution, Statement (.scannerPageStart width resolution) := fun width _ => scanWidthFits_iff width
theorem scannerPixelLine : ∀ pixels, Statement (.scannerPixelLine pixels) := fun _ => always
theorem scannerPageEnd : Statement (.scannerPageEnd) := always
theorem scannerJam : Statement (.scannerJam) := always
theorem ring : ∀ line, Statement (.ring line) := fun _ => always
theorem tone : ∀ line, Statement (.tone line) := fun _ => always
theorem dialDone : ∀ line, Statement (.dialDone line) := fun _ => always
theorem busyTone : ∀ line, Statement (.busyTone line) := fun _ => always
theorem voice : ∀ line, Statement (.voice line) := fun _ => always
theorem answerTone : ∀ line, Statement (.answerTone line) := fun _ => always
theorem loopLost : ∀ line, Statement (.loopLost line) := fun _ => always
theorem carrierLost : ∀ line, Statement (.carrierLost line) := fun _ => always
theorem trained : ∀ line rate, Statement (.trained line rate) := fun _ _ => always
theorem caps : ∀ line good content, Statement (.caps line good content) := fun _ _ content => frameFits_iff content
theorem terms : ∀ line good content, Statement (.terms line good content) := fun _ _ content => frameFits_iff content
theorem accept : ∀ line good content, Statement (.accept line good content) := fun _ _ content => frameFits_iff content
theorem decline : ∀ line good content, Statement (.decline line good content) := fun _ _ content => frameFits_iff content
theorem retrain : ∀ line good content, Statement (.retrain line good content) := fun _ _ content => frameFits_iff content
theorem pageHead : ∀ line good content, Statement (.pageHead line good content) := fun _ _ content => frameFits_iff content
theorem block : ∀ line good content, Statement (.block line good content) := fun _ _ content => frameFits_iff content
theorem check : ∀ line good content, Statement (.check line good content) := fun _ _ content => frameFits_iff content
theorem tally : ∀ line good content, Statement (.tally line good content) := fun _ _ content => frameFits_iff content
theorem resume : ∀ line good content, Statement (.resume line good content) := fun _ _ content => frameFits_iff content
theorem wait : ∀ line good content, Statement (.wait line good content) := fun _ _ content => frameFits_iff content
theorem more : ∀ line good content, Statement (.more line good content) := fun _ _ content => frameFits_iff content
theorem last : ∀ line good content, Statement (.last line good content) := fun _ _ content => frameFits_iff content
theorem taken : ∀ line good content, Statement (.taken line good content) := fun _ _ content => frameFits_iff content
theorem reject : ∀ line good content, Statement (.reject line good content) := fun _ _ content => frameFits_iff content
theorem bye : ∀ line good content, Statement (.bye line good content) := fun _ _ content => frameFits_iff content
theorem dialToneWaitExpiry : ∀ line, Statement (.dialToneWaitExpiry line) := fun _ => always
theorem pumpDialWaitExpiry : ∀ line, Statement (.pumpDialWaitExpiry line) := fun _ => always
theorem pauseWaitExpiry : ∀ line, Statement (.pauseWaitExpiry line) := fun _ => always
theorem answerWaitExpiry : ∀ line, Statement (.answerWaitExpiry line) := fun _ => always
theorem capsWaitExpiry : ∀ line, Statement (.capsWaitExpiry line) := fun _ => always
theorem termsReplyWaitExpiry : ∀ line, Statement (.termsReplyWaitExpiry line) := fun _ => always
theorem trainWaitExpiry : ∀ line, Statement (.trainWaitExpiry line) := fun _ => always
theorem tallyWaitExpiry : ∀ line, Statement (.tallyWaitExpiry line) := fun _ => always
theorem holdTimerExpiry : ∀ line, Statement (.holdTimerExpiry line) := fun _ => always
theorem waitKeepaliveExpiry : ∀ line, Statement (.waitKeepaliveExpiry line) := fun _ => always
theorem pageWaitExpiry : ∀ line, Statement (.pageWaitExpiry line) := fun _ => always
theorem pageEndReplyWaitExpiry : ∀ line, Statement (.pageEndReplyWaitExpiry line) := fun _ => always
theorem ringGapExpiry : ∀ line, Statement (.ringGapExpiry line) := fun _ => always
theorem answerToneWaitExpiry : ∀ line, Statement (.answerToneWaitExpiry line) := fun _ => always
theorem calleeSilenceLimitExpiry : ∀ line, Statement (.calleeSilenceLimitExpiry line) := fun _ => always
theorem lastPageWaitExpiry : ∀ line, Statement (.lastPageWaitExpiry line) := fun _ => always
theorem clearGuardExpiry : ∀ line, Statement (.clearGuardExpiry line) := fun _ => always
theorem restartGuardExpiry : ∀ line, Statement (.restartGuardExpiry line) := fun _ => always
theorem nextAttemptTime : ∀ job index, Statement (.nextAttemptTime job index) := destNamed_iff
theorem dispatchPass : Statement (.dispatchPass) := always
theorem slotBoundary : Statement (.slotBoundary) := always
theorem pulseTimerExpiry : ∀ line, Statement (.pulseTimerExpiry line) := fun _ => always
theorem readyRises : Statement (.readyRises) := always
theorem readyFalls : Statement (.readyFalls) := always
theorem paperChange : ∀ out, Statement (.paperChange out) := fun _ => always
theorem printerJam : Statement (.printerJam) := always
theorem lineAccepted : Statement (.lineAccepted) := always
theorem printHoldTimerExpiry : Statement (.printHoldTimerExpiry) := always
theorem standbyTimerExpiry : Statement (.standbyTimerExpiry) := always
theorem outputHoldAssert : Statement (.outputHoldAssert) := always

end Sys2Proof.Laws.PortLimits
end

