-- ==== Sys2Proof/Laws/Time.lean ====
section
/-! SUPPORT. Time.lean: what the coming of a time can do to the state (R154, R157). -/

namespace Sys2Proof.Machine

/-- A time that is not ahead changes nothing. -/
theorem State.moveTo_of_le {s : State} {t : Nat} (h : t ≤ s.timebase) : s.moveTo t = s := by
  unfold State.moveTo
  rw [if_neg (Nat.not_lt.mpr h)]

/-- A time ahead moves the timebase and the clock alone. -/
theorem State.moveTo_of_lt {s : State} {t : Nat} (h : s.timebase < t) :
    s.moveTo t = { s with
      timebase := t, charge := { s.charge with clock := s.charge.clock.advance (t - s.timebase) } } := by
  unfold State.moveTo
  rw [if_pos h, State.setCharge, State.setTimebase]

/-- The timebase moves to the time, never back, and the clock with it; nothing else changes. -/
theorem State.moveTo_eq (s : State) (t : Nat) : ∃ clock, s.moveTo t = { s with
    timebase := max s.timebase t, charge := { s.charge with clock := clock } } := by
  by_cases h : s.timebase < t
  · exact ⟨_, by rw [State.moveTo_of_lt h, Nat.max_eq_right (Nat.le_of_lt h)]⟩
  · exact ⟨s.charge.clock, by
      rw [State.moveTo_of_le (Nat.not_lt.mp h), Nat.max_eq_left (Nat.not_lt.mp h)]⟩

/-- Finding the band again changes the band in force and the condition flags alone. -/
theorem State.refindBand_eq (s : State) : ∃ flags, s.refindBand = { s with
    charge := { s.charge with band := s.findBand }, disp := { s.disp with flags := flags } } := by
  by_cases h : s.findBand = s.charge.band
  · exact ⟨s.disp.flags, by simp [State.refindBand, h]⟩
  · exact ⟨putBand s.disp.flags s.findBand, by simp [State.refindBand, h, State.setCharge, State.setDisp]⟩

/-- The coming of a time changes the timebase, the clock, the band in force and the condition flags alone. -/
theorem State.advanceTo_eq (s : State) (t : Nat) : ∃ clock band flags, s.advanceTo t = { s with
    timebase := max s.timebase t, charge := { s.charge with clock := clock, band := band }
    disp := { s.disp with flags := flags } } := by
  unfold State.advanceTo
  split
  · obtain ⟨c1, h1⟩ := s.moveTo_eq (t - 1)
    obtain ⟨f, h2⟩ := (s.moveTo (t - 1)).refindBand_eq
    obtain ⟨c2, h3⟩ := (s.moveTo (t - 1)).refindBand.moveTo_eq t
    refine ⟨c2, (s.moveTo (t - 1)).findBand, f, ?_⟩
    rw [h3, h2, h1]
    have : max (max s.timebase (t - 1)) t = max s.timebase t := by omega
    simp [this]
  · obtain ⟨c, h⟩ := s.moveTo_eq t
    exact ⟨c, s.charge.band, s.disp.flags, h⟩

/-- With no half-hour boundary passed, the band stays as it is. -/
theorem State.advanceTo_of_not_passes {s : State} {t : Nat} (h : s.passesBoundary t = false) :
    s.advanceTo t = s.moveTo t := by
  simp only [State.advanceTo, h, Bool.false_eq_true, if_false]

end Sys2Proof.Machine
end

