-- ==== Sys2Proof/Tests/Slice0.lean ====
section
/-! SUPPORT. Slice0.lean: tests of the model against the manual's worked examples, the refusals of `wellFormed`, and for
each statement that has hypotheses a state and operands that meet them (`witness_<name of the statement>`, one clause of
the statement a line). -/

namespace Sys2Proof.Tests
open Sys2Proof.Machine

set_option maxRecDepth 8000

/-! ## States to test on -/

/-- The part ready, everything else as at reset. -/
def ready : State := { State.reset with loader := ⟨true, none, some .defaults⟩ }

/-- A record of kind byte `k` with body `b` and tag 7. -/
def rec7 (k : Byte) (b : List Byte) : LinkRecord := ⟨k, 7#8, b⟩

/-- `s` with one record in the input buffer. -/
def withRecord (s : State) (k : Byte) (b : List Byte) : State :=
  { s with link := { s.link with input := [rec7 k b] } }

theorem atHead_withRecord {s : State} {k : Byte} {b : List Byte} {kd : RecordKind}
    (hk : recordKind k = kd) (hl : s.link.replies.length < 16) : AtHead (withRecord s k b) kd (rec7 k b) :=
  ⟨rfl, hk, by simp [Link.canTake, withRecord, hl, Config.replyPlaces]⟩

theorem takes_withRecord {s : State} {k : Byte} {b : List Byte} {kd : RecordKind}
    (hk : recordKind k = kd) (hl : s.link.replies.length < 16) (hr : s.loader.ready = true) :
    Takes (withRecord s k b) kd (rec7 k b) :=
  ⟨atHead_withRecord hk hl, hr⟩

/-- `s` with line 1's channel `ch`. -/
def withLine (s : State) (ch : Channel) : State := { s with lines := s.lines.set 1 ch }

/-- A destination of `9,4`, PENDING. -/
def dest : Dest := ⟨[57#8, 44#8, 52#8], .pending, 0, none, 0, none, none, none, none, 0⟩

/-- A job with id 5 and one destination. -/
def job : Job :=
  { id := 5, account := 0, priority := .routine, mode := .always, mask := 0, gateNotice := true
    retryLimit := 3, retryBase := 60, pageWait := 30, state := .opened, cancelling := none
    released := true, submission := 0, pages := [3], dests := [dest] }

/-- A COMPLETE page with id 3, of width 256. -/
def page : Page :=
  { id := 3, source := .link, state := .complete, width := 256, res := .fine, lineCount := 1
    chain := [⟨9, 13⟩], pendingBurst := List.replicate 32 none, adjusted := 0, tag := [], line := none
    holders := [.job 5] }

def route : Route := ⟨[57#8, 44#8, 52#8], 2, 0xF#4⟩

/-- The call context of a call on destination 0 of job 5. -/
def call : OutCall :=
  { job := 5, dest := 0, route := route, account := 0, answered := false, dialPos := none, rate := none
    tag := none, ceiling := none, retraining := false, caps := none, form := none, phase := none, burst := []
    missing := 0, rounds := 0, burstBit := false, pageBit := false, pageEnd := none, holdTotal := 0
    endAfter := none, retrainCause := none, termsSent := false, resends := 0, holdStart := 0
    anyBurst := false, anyPage := false }

/-- Line 1 in state `st` with an outgoing call and the timers given. -/
def calling (st : ChanState) (c : OutCall) (timers : List (Timer × Nat)) : Channel :=
  ⟨st, none, some (.outgoing c), none, timers⟩

/-- The part ready with job 5 and page 3. -/
def stocked : State :=
  { ready with
    jobs := ⟨[job], 1⟩
    store := { ready.store with pages := [page], freeList := [0, 1, 2] } }

/-- `stocked` with line 1 in state `st`, an outgoing call and the timers given. -/
def onCall (st : ChanState) (c : OutCall) (timers : List (Timer × Nat)) : State :=
  withLine stocked (calling st c timers)

/-- A Recoder at the first line of page 3. -/
def recoder : Recoder :=
  { page := 3, mode := .copy, dec := ⟨3, 256, 0, [256], [256], 0, 0⟩, enc := ⟨2, [256], 0, true⟩
    form := .plainDelta, cropTo := 256, merge := false, minTime := 0, carry := [] }

/-- `onCall` with a Recoder on the page. -/
def sending (c : OutCall) (timers : List (Timer × Nat)) : State :=
  withLine stocked ⟨.send, none, some (.outgoing c), some recoder, timers⟩

/-- A received page with id 3 on line 1, with the first entries of its pending burst given. -/
def received (burst : List (Option ChainEntry)) : Page :=
  { page with
    source := .received, state := .receiving, line := some 1, holders := [.coding (.line 1)]
    pendingBurst := burst ++ List.replicate (32 - burst.length) none }

/-- The part ready with line 1 in state `st`, an incoming call and the timers given, page 3 being received. -/
def onAnswer (st : ChanState) (c : InCall) (timers : List (Timer × Nat))
    (burst : List (Option ChainEntry) := []) : State :=
  { withLine ready ⟨st, none, some (.incoming c), none, timers⟩ with
    store := { ready.store with pages := [received burst], freeList := [0, 1, 2] } }

/-- The context of a new incoming call. -/
def answered : InCall := ⟨none, none, none, none, false, none, none, false, false, none⟩

/-- The part ready with printer `p` and page 3 to print. -/
def printing (p : Printer) : State :=
  { stocked with
    printer := p
    store := { stocked.store with pages := [{ page with source := .received, line := some 2, holders := [.print] }] } }

/-! ## What `wellFormed` refuses -/

theorem test_frameFits_refuses : wellFormed (.block 0 true (List.replicate 65536 0#8)) = false := by
  simp only [wellFormed, frameFits, List.length_replicate]; decide

theorem test_scanWidthFits_refuses : wellFormed (.scannerPageStart 65536 0) = false := by decide

theorem test_destNamed_refuses_job : wellFormed (.nextAttemptTime 0 0) = false := by decide

theorem test_destNamed_refuses_index : wellFormed (.nextAttemptTime 1 48) = false := by decide

theorem test_wellFormed_accepts : wellFormed (.nextAttemptTime 65535 47) = true := by decide

/-! ## The manual's worked examples -/

/-- R211's example: the PLAIN line 0, 3, 253 is sent as three bytes. -/
theorem test_plain_line_bytes : packBytes (plainBits [0, 3, 253]) = [0x40#8, 0xF1#8, 0xFB#8] := by decide

/-- R44's table of repairs, for width 256. -/
theorem test_repairs :
    [[0, 256], [100, 0, 20, 136], [50, 0, 0, 206], [256, 0], [100, 20, 100], [100, 20]].map (repairLine 256)
      = [[0, 256], [120, 136], [50, 206], [256], [100, 20, 136], [100, 20, 136]] := by decide

/-- 2.4: line A costs 36 bits as PLAIN and 44 as DELTA, line B 48 and 32, against the same reference. -/
theorem test_coding_costs :
    [[102, 20, 134], [100, 20, 40, 3, 93]].map (fun l => ((plainBits l).length,
      (deltaBits (deltaLine l [100, 20, 136])).length)) = [(36, 44), (48, 32)] := by decide

/-- 2.4, "One page, two refresh intervals": the coded lengths of the seven lines at K = 4 and at K = 2. -/
theorem test_refresh_intervals :
    [4, 2].map (fun k => (([[256], [256], [100, 20, 136], [100, 20, 40, 3, 93], [100, 20, 40, 3, 93], [100, 20, 136],
      [100, 20, 136]].foldl (fun (acc : Encoder × List Nat) l =>
        let c := encodeLine .plainDelta acc.1 l
        (c.2, acc.2 ++ [c.1.length])) (⟨k, [256], 0, true⟩, [])).2))
      = [[15, 2, 36, 32, 2, 32, 36], [15, 2, 36, 32, 48, 32, 36]] := by decide

/-- 2.8: the first bad line, DELTA 200, 60 at width 256, is concealed by a copy of the line before it. -/
theorem test_concealed :
    (decodeBits 256 [100, 20, 40, 3, 93] [100, 20, 40, 3, 93] (markDelta ++ runSymbol 200 ++ runSymbol 60
      ++ markSame)).map (fun l => (l.runs, l.concealed, l.rest))
      = some ([100, 20, 40, 3, 93], true, markSame) := by decide

/-- 4.8: the LFSR from the seed 0x6D21. -/
theorem test_lfsr : [0x6D21#16, 0xDA42#16, 0xB484#16].map lfsrStep = [0xDA42#16, 0xB484#16, 0x6908#16] := by decide

/-- The dial plan of 5.5. -/
def plan55 : List DialEntry :=
  [⟨[], 0, 0, [57#8], 15#4, false⟩, ⟨[48#8], 1, 0, [], 15#4, false⟩, ⟨[48#8, 55#8], 2, 0, [], 12#4, false⟩,
    ⟨[48#8, 48#8], 3, 2, [48#8, 48#8, 48#8], 8#4, false⟩, ⟨[48#8, 48#8, 57#8, 48#8], 5, 0, [], 8#4, true⟩,
    ⟨[35#8], 0, 1, [], 3#4, false⟩]

/-- 5.5: `0712,3`, `0033`, `#` and `,,5`. -/
theorem test_lookups :
    [[48#8, 55#8, 49#8, 50#8, 44#8, 51#8], [48#8, 48#8, 51#8, 51#8], [35#8], [44#8, 44#8, 53#8]].map (lookup plan55)
      = [.route ⟨[48#8, 55#8, 49#8, 50#8, 44#8, 51#8], 2, 12#4⟩,
         .route ⟨[48#8, 48#8, 48#8, 51#8, 51#8], 3, 8#4⟩, .noRoute,
         .route ⟨[57#8, 44#8, 44#8, 53#8], 0, 15#4⟩] := by decide

/-- 5.5: `009055` is barred. -/
theorem test_lookup_barred :
    lookup plan55 [48#8, 48#8, 57#8, 48#8, 53#8, 53#8]
      = .barred ⟨[48#8, 48#8, 57#8, 48#8, 53#8, 53#8], 5, 8#4⟩ := by decide

/-- 7.3, "fill at two rates": m = 96 and 72; a 38-bit line becomes 96 and 72 bits, a 37-bit line 97. -/
theorem test_fill :
    (minLineBits 10 .r9600, minLineBits 10 .r7200, (padLine 96 (List.replicate 38 false)).length,
      (padLine 96 (List.replicate 37 false)).length, (padLine 72 (List.replicate 38 false)).length)
      = (96, 72, 96, 97, 72) := by decide

/-- 4.8, its first row: BUSY at the first attempt, the seed stepped to 0xDA42, r = 0, a wait of 60 s. -/
theorem test_first_retry :
    ((({ stocked with jobs := ⟨[{ job with dests := [{ dest with state := .bound }] }], 1⟩ } : State).reportCallEnd
      5 0 .busy).findDest 5 0).map (fun x => (x.2.state, x.2.attempts, x.2.nextAttempt))
      = some (.waitingRetry, 1, some (.waits 60000)) := by decide


/-- R209: the link rate of an IDENT reply in bit/s: 1,000,000. -/
theorem test_ident_link_rate : (ready.identData.drop 5).take 4 = [0x00#8, 0x0F#8, 0x42#8, 0x40#8] := by decide

/-- R78: a next attempt time that has been passed over is still asked for, and not again once it has come. -/
theorem test_attempt_passed_over :
    [NextAttempt.waits 400, .come].map (fun t =>
      ({ stocked with
        timebase := 500
        jobs := ⟨[{ job with dests := [{ dest with state := .waitingRetry, nextAttempt := some t }] }], 1⟩ } : State
        ).dueAttempts) = [[.nextAttemptTime 5 0], []] := by decide

/-- R57: a jam under stall with a page start waiting: PAGE_SPOILED joins the queue before the SCAN_PAGE of the id it
gave back. -/
theorem test_jam_before_page_start :
    ((({ ready with
        store := { ready.store with
          freeList := [], pages := [{ page with source := .scan, state := .coding, holders := [.coding .scan] }] }
        scanCtx := some ⟨3, 256, .fine, ⟨4, [256], 0, true⟩, [true]⟩
        scanner := ⟨.scanning, some (.pageStart 256 0)⟩
        link := { ready.link with outputHold := true } } : State).event State.takeJam).link.notices.map
          (fun x => (x.notice.kind, x.notice.key))) = [(6, 3), (3, 0)] := by decide

/-- R205: a jam with no page start standing: the STORE_OK, PAGE_SPOILED and JOB_DONE of the spoiling and the JOB_GATE of
the event's end join in the order of their kinds. -/
theorem test_jam_notices_by_kind :
    ((({ ready with
        jobs := ⟨[{ job with state := .closed },
          { job with id := 6, mode := .whenNotAll, mask := 0x0010#16, released := false, pages := [] }], 2⟩
        store := { ready.store with
          storeLow := true, freeList := List.range' 10 600
          pages := [{ page with source := .scan, state := .coding, holders := [.coding .scan, .job 5] }] }
        disp := { ready.disp with flags := 0x0010#16 }
        scanCtx := some ⟨3, 256, .fine, ⟨4, [256], 0, true⟩, []⟩
        scanner := ⟨.scanning, none⟩
        link := { ready.link with outputHold := true } } : State).event State.takeJam).link.notices.map
          (fun x => (x.notice.kind, x.notice.key))) = [(2, 0), (6, 3), (8, 6), (9, 5)] := by decide +kernel

/-- R120, R129: a RESTART with a call in progress gives on-hook and stop, then resets the pump. -/
theorem test_restart_stops_the_pump :
    ((onCall .send call []).restartLine 1).outputs = [.onHook 1, .pump 1 .stop, .pump 1 .reset] := by decide
/-! ## Witnesses: the machine (chapter by chapter, in the order of Obligations.lean) -/

theorem witness_StepRunsTheFrontCommand :
    ({ ready with pending := [.ring 1, .dispatchPass] } : State).pending = .ring 1 :: [.dispatchPass] := rfl

theorem witness_IdleStep :
    ready.pending = [] ∧ AtHead (withRecord ready 1 []) .ident (rec7 1 [])
    ∧ (∀ k r, ¬ AtHead ready k r)
    ∧ (let s : State := { ready with disp := { ready.disp with passRequest := true } }
       (∀ k r, ¬ AtHead s k r) ∧ s.disp.passRequest = true ∧ s.loader.ready = true)
    ∧ ¬ (ready.disp.passRequest = true ∧ ready.loader.ready = true)
    ∧ (let c : Clock := ⟨6, 86399999⟩
       c.day ≤ 6 ∧ c.ms ≤ 86399999) :=
  ⟨rfl, atHead_withRecord rfl (by decide), (fun _ _ h => nomatch h.head),
    ⟨(fun _ _ h => nomatch h.head), rfl, rfl⟩, by decide, by decide⟩

/-- Line 1 on a call whose hold timer and keepalive run out in one millisecond. -/
theorem witness_IdleStep_due :
    (let s : State := { onCall .send call [(.keepalive, 5), (.hold, 5)] with timebase := 5 }
     .holdTimerExpiry 1 ∈ s.dueCommands ∧ .waitKeepaliveExpiry 1 ∈ s.dueCommands
     ∧ s.dueLine 1 = [.holdTimerExpiry 1, .waitKeepaliveExpiry 1] ∧ s.charge.clock.ms % 1800000 = 0) := by decide

theorem witness_StepKeepsSound : Sound ready ∧ ∃ t, step ready = .next t :=
  ⟨⟨by decide, by decide, by decide, by decide, by decide⟩, _, rfl⟩

theorem witness_StepKeepsStoreWhole : StoreWhole ready ∧ ∃ t, step ready = .next t :=
  ⟨⟨by simp [ready, State.reset, Store.empty], by simp [ready, State.reset, Store.empty],
    by simp [ready, State.reset, Store.empty], by simp [ready, State.reset, Store.empty]⟩, _, rfl⟩

theorem witness_StepKeepsLinkBounded : LinkBounded ready ∧ ∃ t, step ready = .next t :=
  ⟨⟨by decide, by decide, by decide, by decide, by decide, by decide⟩, _, rfl⟩

/-- The part ready with the four queues of the link given. -/
def queued (rs : List Reply) (ts : List Ticket) (ns : List NoticeEntry) (bs : List BlockItem) : State :=
  { ready with
    charge := { ready.charge with tickets := ts }
    link := { ready.link with replies := rs, notices := ns, blocks := bs } }

theorem witness_ArbiterOrder :
    (let r : Reply := ⟨1#8, 2#8, 3, .ok []⟩
     let t : Ticket := ⟨1, 2, 3, 1, 2, 3, 1, 5, 6, 7, 8, .restart, [49#8]⟩
     let n : NoticeEntry := ⟨5, .ready⟩
     let b : BlockItem := ⟨3#8, 4, 5, 9, [1#8, 2#8]⟩
     (queued [] [] [] []).link.sending = none ∧ (queued [] [] [] []).link.outputHold = false
     ∧ ({ ready.link with outputHold := true } : Link).outputHold = true
     ∧ (queued [r, r] [t] [n] [b]).link.replies = r :: [r]
     ∧ (queued [] [t] [n] [b]).link.replies = [] ∧ (queued [] [t] [n] [b]).charge.tickets = t :: []
     ∧ (queued [] [] [n] [b]).charge.tickets = [] ∧ (queued [] [] [n] [b]).link.notices = n :: []
     ∧ (queued [] [] [] [b]).link.notices = [] ∧ (queued [] [] [] [b]).link.blocks = b :: []
     ∧ (queued [] [] [] []).link.blocks = []) := by decide

theorem witness_ReleaseIsEvaluated : ready.disp.flags = 1#16 ∧ ready.disp.flags ≠ 0x8001#16 := by decide

/-- R205 (log entry 14): STORE_OK, then STORE_LOW, of one event stay in that order, before the other kinds. -/
theorem test_two_changes_of_store_low_are_in_order :
    ({ ready with staged := [.jobGate 5 true 0, .storeOk 9, .storeLow 9] } : State).flushNotices.link.notices.map
      (·.notice.kind) = [2, 1, 8] := by decide

/-! ## Witnesses: the settings load and RESTART -/

theorem witness_PowerOnAndResetPin :
    (⟨.mib1, .mbit8, true⟩ : Straps).configPresent = true
    ∧ (⟨.kib512, .mbit1, false⟩ : Straps).configPresent = false := by decide

/-- The least image's sections: four lines, no tariff entry, 144 slots, no plan, the settings, no account. -/
def sections : List Byte :=
  List.flatten (List.replicate 4 (num1 0 ++ num1 2 ++ num2 14400 ++ num1 1)) ++ num1 0 ++ List.replicate 144 0#8
    ++ num1 0 ++ Settings.builtIn.bytes ++ num1 0

/-- The part loading, with `bytes` read. -/
def loading (bytes : List Byte) (sum : BitVec 16) : State :=
  { State.reset with loader := ⟨false, some ⟨bytes, sum, 100, false⟩, none⟩ }

/-- The bytes of an image before its sum. -/
def image : List Byte := [4#8, 22#8] ++ num2 sections.length ++ sections

theorem witness_LoadReads :
    -- no load
    (ready.loader.load = none)
    -- a mark broken at its first and at its second byte
    ∧ ((loading [] 0).loader.load = some ⟨[], 0, 100, false⟩
        ∧ ¬ (([] ++ [5#8] : List Byte).getD 0 0 = 4#8 ∧ (1 = 1 ∨ ([] ++ [5#8] : List Byte).getD 1 0 = 22#8)))
    ∧ ¬ (([4#8] ++ [21#8] : List Byte).getD 0 0 = 4#8 ∧ (2 = 1 ∨ ([4#8] ++ [21#8] : List Byte).getD 1 0 = 22#8))
    -- the mark and a length at its two bounds
    ∧ (let b : List Byte := [4#8, 22#8, 0xFF#8] ++ [251#8]
       b.getD 0 0 = 4#8 ∧ b.getD 1 0 = 22#8 ∧ b.length = 4
        ∧ 65530 < (b.getD 2 0).toNat * 256 + (b.getD 3 0).toNat)
    ∧ (let b : List Byte := [4#8, 22#8, 0xFF#8] ++ [250#8]
       b.getD 0 0 = 4#8 ∧ b.getD 1 0 = 22#8 ∧ 4 ≤ b.length
        ∧ b.length < 4 + ((b.getD 2 0).toNat * 256 + (b.getD 3 0).toNat)
        ∧ (b.getD 2 0).toNat * 256 + (b.getD 3 0).toNat ≤ 65530)
    -- sections that do not fit: an empty image
    ∧ (let b : List Byte := [4#8, 22#8, 0#8] ++ [0#8]
       b.length = 4 + ((b.getD 2 0).toNat * 256 + (b.getD 3 0).toNat)
        ∧ parseImage ((b.drop 4).take ((b.getD 2 0).toNat * 256 + (b.getD 3 0).toNat)) = none)
    -- sections that fit, and the two bytes of the sum
    ∧ (image.getD 0 0 = 4#8 ∧ image.getD 1 0 = 22#8 ∧ image.dropLast ++ [0#8] = image
        ∧ image.length = 4 + ((image.getD 2 0).toNat * 256 + (image.getD 3 0).toNat)
        ∧ (parseImage sections).isSome = true ∧ (image.drop 4).take sections.length = sections) := by
  decide +kernel

/-- An image of four lines and the settings, the last values in range and a seed of 0. -/
def settingsImage : Image :=
  { lines := List.replicate 4 (2, 15, 14400, 1), tariff := [], bands := [], plan := [], accounts := []
    settings := [.num 128, .num 256, .num 2048, .num 4096, .num 16, .num 16, .num 4, .num 0, .num 3, .tag [], .num 30,
      .num 3, .num 2, .num 65535, .num 3600] }

theorem witness_LoadEnds :
    ready.staged = [] ∧ ready.store.storeLow = false ∧ 256 ≤ ready.store.freeList.length
    ∧ ready.link.notices.length ≤ 62 ∧ (ready.chan 0).deadline .restartGuard = none
    ∧ ((withLine ready ⟨.outOfService, none, none, none, [(.restartGuard, 9)]⟩).chan 1).deadline .restartGuard ≠ none
    -- the last values in range of an image's line, slot and plan
    ∧ (LineMode.ofCode 2 = some .receive ∧ Rate.ofBps 14400 = some .r14400 ∧ 15 ≤ 15 ∧ bitOf 1 = some true)
    ∧ ([3] : List Nat).getD 0 0 ≤ 3
    ∧ ([⟨[57#8], 7, 16, [48#8], 15, 1⟩] : List DialItem).map DialItem.check
        = [⟨[57#8], 7, 16, [48#8], 15#4, true⟩].map some
    -- an image of the settings with a seed of 0; the low mark it leaves in force
    ∧ (0 < 65536 ∧ settingsImage.lines.length = 4 ∧ settingsImage.plan.length ≤ 128
      ∧ (ready.endLoad false (.image settingsImage)).settings.lowMark ≤ ready.store.freeList.length) := by
  decide +kernel

theorem witness_RestartEndsEverything :
    Takes (withRecord ready 0x71 []) .restart (rec7 0x71 []) ∧ (rec7 0x71 []).body = []
    ∧ (withRecord ready 0x71 []).straps.configPresent = true
    ∧ (let s : State := { ready with straps := { ready.straps with configPresent := false } }
       Takes (withRecord s 0x71 []) .restart (rec7 0x71 []) ∧ s.straps.configPresent = false)
    ∧ Takes (withRecord ready 0x71 [0#8]) .restart (rec7 0x71 [0#8]) ∧ (rec7 0x71 [0#8]).body ≠ [] :=
  ⟨takes_withRecord rfl (by decide) rfl, rfl, rfl, ⟨takes_withRecord rfl (by decide) rfl, rfl⟩,
    takes_withRecord rfl (by decide) rfl, by decide⟩

/-! ## Witnesses: the stream link -/

theorem witness_Framing :
    ready.link.framer = .hunt false ∧ ready.link.input.length < 4
    -- the longest body, and the shortest one that is too long
    ∧ (List.replicate 2060 0#8).length ≤ 2060 ∧ 2060 < (8#8 : Byte).toNat * 256 + (13#8 : Byte).toNat
    ∧ ([0#8, 0#8] : List Byte).length = 2
    ∧ ([0#8, 0#8] : List Byte) ≠ (recordBytes 1 2 [5#8]).drop (6 + 1)
    ∧ (∀ p, p ∈ List.zip [1#8, 2#8, 8#8] [2#8, 8#8, 13#8] → p ≠ (0xA5#8, 0x5A#8))
    ∧ (List.replicate 4 (rec7 1 [])).length = 4 := by
  refine ⟨rfl, by decide, by simp, by decide, rfl, by decide, by simp, rfl⟩

theorem witness_RecordsAreAnswered :
    (∀ r, ¬ AtHead ready .ident r) ∧ AtHead (withRecord ready 1 []) .ident (rec7 1 [])
    ∧ RecordKind.ident ≠ .rasterLine ∧ AtHead (withRecord ready 0xEE []) .unknown (rec7 0xEE [])
    ∧ AtHead (withRecord State.reset 0x70 []) .status (rec7 0x70 []) ∧ State.reset.loader.ready = false :=
  ⟨(fun _ h => nomatch h.head), atHead_withRecord rfl (by decide), by decide, atHead_withRecord rfl (by decide),
    atHead_withRecord rfl (by decide), rfl⟩

theorem witness_IdentReply :
    AtHead (withRecord State.reset 1 []) .ident (rec7 1 []) ∧ AtHead (withRecord ready 1 [0#8]) .ident (rec7 1 [0#8])
    ∧ (rec7 1 [0#8]).body ≠ [] :=
  ⟨atHead_withRecord rfl (by decide), atHead_withRecord rfl (by decide), by decide⟩

theorem witness_OutboundLink :
    ready.link.sending = none ∧ ({ ready.link with sending := some ⟨[], 9⟩ } : Link).sending = some ⟨[], 9⟩ := by
  decide

theorem witness_StatusReply :
    Takes (withRecord ready 0x70 []) .status (rec7 0x70 []) ∧ Takes (withRecord ready 0x70 [0#8]) .status (rec7 0x70 [0#8])
    ∧ (rec7 0x70 [0#8]).body ≠ [] :=
  ⟨takes_withRecord rfl (by decide) rfl, takes_withRecord rfl (by decide) rfl, by decide⟩

/-- A FLAG SET of BAND3 is refused; one of HOLIDAY and of host flag 12 is taken. -/
theorem witness_FlagSet :
    (Takes (withRecord ready 0x50 [0, 0, 0]) .flagSet (rec7 0x50 [0, 0, 0]) ∧ [0#8, 0, 0].length ≠ 4)
    ∧ (let b := num2 (0x0800#16).toNat ++ num2 (0#16).toNat
     Takes (withRecord ready 0x50 b) .flagSet (rec7 0x50 b) ∧ ∃ i, i < 12 ∧ (0x0800#16).getLsbD i = true)
    ∧ (let b := num2 (0x9000#16).toNat ++ num2 (0x8000#16).toNat
       Takes (withRecord ready 0x50 b) .flagSet (rec7 0x50 b) ∧ ∀ i, i < 12 → (0x9000#16).getLsbD i = false) :=
  ⟨⟨takes_withRecord rfl (by decide) rfl, by decide⟩,
    ⟨takes_withRecord rfl (by decide) rfl, 11, by decide⟩, takes_withRecord rfl (by decide) rfl, by decide⟩

/-! ## Witnesses: the clock, the tables and the settings -/

/-- The last millisecond of day 6, and the day and the time after the last. -/
theorem witness_ClockSet :
    (AtHead (withRecord State.reset 2 []) .clockSet (rec7 2 []) ∧ (withRecord State.reset 2 []).loader.ready = false)
    ∧ (AtHead (withRecord ready 2 [0, 0, 0, 0]) .clockSet (rec7 2 [0, 0, 0, 0])
        ∧ (withRecord ready 2 [0, 0, 0, 0]).loader.ready = true ∧ [0#8, 0, 0, 0].length ≠ 5)
    ∧ (let b := num1 6 ++ num4 86399999
     Takes (withRecord ready 2 b) .clockSet (rec7 2 b)
      ∧ (95 : Fin 144).val = 86399999 / 1800000
        + 48 * (if 6 = 0 ∨ (withRecord ready 2 b).flag 15 = true then 2 else if 6 = 6 then 1 else 0))
    ∧ (let b := num1 7 ++ num4 0
       Takes (withRecord ready 2 b) .clockSet (rec7 2 b) ∧ 6 < 7)
    ∧ (let b := num1 0 ++ num4 86400000
       Takes (withRecord ready 2 b) .clockSet (rec7 2 b) ∧ 86399999 < 86400000 ∧ 86400000 < 4294967296) :=
  ⟨⟨⟨rfl, rfl, by decide⟩, rfl⟩, ⟨⟨rfl, rfl, by decide⟩, rfl, by decide⟩,
    ⟨takes_withRecord rfl (by decide) rfl, by decide⟩, ⟨takes_withRecord rfl (by decide) rfl, by decide⟩,
    takes_withRecord rfl (by decide) rfl, by decide⟩

/-- The body of a TARIFF LOAD of `items`. -/
def tariffBody (items : List TariffItem) : List Byte :=
  num1 items.length ++ items.flatMap (fun i =>
    num1 i.cls ++ num1 i.band ++ num2 i.connect ++ num2 i.pulse ++ num2 i.period)

/-- The body of a BAND LOAD. -/
def bandBody (day first : Nat) (bands : List (BitVec 8)) : List Byte :=
  num1 day ++ num1 first ++ num1 bands.length ++ bands

theorem takes_tariffLoad (items : List TariffItem) :
    Takes (withRecord ready 0x10 (tariffBody items)) .tariffLoad (rec7 0x10 (tariffBody items)) :=
  takes_withRecord rfl (by decide) rfl

theorem takes_bandLoad (d f : Nat) (bs : List (BitVec 8)) :
    Takes (withRecord ready 0x11 (bandBody d f bs)) .bandLoad (rec7 0x11 (bandBody d f bs)) :=
  takes_withRecord rfl (by decide) rfl

/-- Lists of 0 and 33 entries, an entry just out of range, entries at both ends of theirs; slots up to the last of the
day, and one past it. The records are `takes_tariffLoad` and `takes_bandLoad`. -/
theorem witness_TariffAndBandLoad :
    (let bad : List TariffItem := [⟨7, 3, 65535, 65535, 36001⟩]
     let good : List TariffItem := [⟨7, 3, 65535, 65535, 36000⟩, ⟨0, 0, 0, 0, 1⟩]
     32 < (List.replicate 33 (⟨0, 0, 0, 0, 1⟩ : TariffItem)).length
      ∧ (∃ i ∈ bad, ¬ (i.cls ≤ 7 ∧ i.band ≤ 3 ∧ 1 ≤ i.period ∧ i.period ≤ 36000))
      ∧ (1 ≤ good.length ∧ good.length ≤ 32
        ∧ (∀ i ∈ good, i.cls < 256 ∧ i.band < 256 ∧ i.connect < 65536 ∧ i.pulse < 65536 ∧ i.period < 65536)
        ∧ ∀ i ∈ good, i.cls ≤ 7 ∧ i.band ≤ 3 ∧ 1 ≤ i.period ∧ i.period ≤ 36000))
    ∧ (48 < (List.replicate 49 (0#8 : Byte)).length
      ∧ (2 ≤ 2 ∧ 47 + ([3#8] : List Byte).length ≤ 48 ∧ ∀ b ∈ ([3#8] : List Byte), b.toNat ≤ 3)
      ∧ 48 < 47 + ([3#8, 0#8] : List Byte).length ∧ (∃ b ∈ ([4#8] : List Byte), 3 < b.toNat)) := by decide

/-- The body of a DIAL PLAN LOAD. -/
def dialBody (i : DialItem) : List Byte :=
  text i.pfx ++ num1 i.cls ++ num1 i.strip ++ text i.prepend ++ num1 i.mask ++ num1 i.barred

/-- The part ready with a dial plan. -/
def planned (plan : List DialEntry) : State := { ready with disp := { ready.disp with plan := plan } }

theorem takes_dialPlanLoad (plan : List DialEntry) (i : DialItem) :
    Takes (withRecord (planned plan) 0x12 (dialBody i)) .dialPlanLoad (rec7 0x12 (dialBody i)) :=
  takes_withRecord rfl (Nat.zero_lt_succ 15) rfl

theorem takes_dialPlanRemove (plan : List DialEntry) (p : List Byte) :
    Takes (withRecord (planned plan) 0x13 (text p)) .dialPlanRemove (rec7 0x13 (text p)) :=
  takes_withRecord rfl (Nat.zero_lt_succ 15) rfl

/-- The entry with the prefix 9, its values at their largest; the prefix in the plan, not in it, and the plan full; an
entry out of range; a remove of a prefix that is held and of one that is not. -/
theorem witness_DialPlan :
    (let i : DialItem := ⟨[57#8], 7, 16, [48#8, 49#8, 50#8, 51#8, 52#8, 53#8, 54#8, 55#8], 15, 1⟩
     let dialled (c : BitVec 8) : Prop := (48 ≤ c.toNat ∧ c.toNat ≤ 57) ∨ c = 42#8 ∨ c = 35#8
     i.pfx.length ≤ 16 ∧ (∀ c ∈ i.pfx, dialled c) ∧ i.cls ≤ 7 ∧ i.strip ≤ 16
      ∧ 1 ≤ i.mask ∧ i.mask ≤ 15 ∧ i.prepend.length ≤ 8 ∧ (∀ c ∈ i.prepend, dialled c) ∧ (7 : Fin 8).val = i.cls
      ∧ (∃ x ∈ ([⟨[57#8], 0, 0, [], 1#4, false⟩] : List DialEntry), x.pfx = i.pfx)
      ∧ (∀ x ∈ plan55, x.pfx ≠ i.pfx) ∧ plan55.length < 128
      ∧ (∀ x ∈ List.replicate 128 (⟨[48#8], 0, 0, [], 1#4, false⟩ : DialEntry), x.pfx ≠ i.pfx)
      ∧ 128 ≤ (List.replicate 128 (⟨[48#8], 0, 0, [], 1#4, false⟩ : DialEntry)).length
      ∧ i.barred ≤ 1 ∧ ¬ ((⟨[57#8], 7, 16, [], 16, 1⟩ : DialItem).mask ≤ 15)
      ∧ ¬ ((⟨[57#8], 7, 16, [], 15, 2⟩ : DialItem).barred ≤ 1)
      ∧ ¬ ((List.replicate 17 57#8).length ≤ 16) ∧ ¬ dialled 44#8
      ∧ (∃ x ∈ plan55, x.pfx = [35#8]) ∧ ∀ x ∈ plan55, x.pfx ≠ [57#8]) := by decide

/-- 5.5: no prefix, the longest of two, a barred one, and a route of nothing but a pause. -/
theorem witness_LongestPrefixServes :
    (plan55.map (·.pfx)).Nodup
    ∧ (∀ e ∈ ([] : List DialEntry), ¬ e.pfx <+: [48#8])
    ∧ (let e : DialEntry := ⟨[48#8, 55#8], 2, 0, [], 12#4, false⟩
       e ∈ plan55 ∧ e.pfx <+: [48#8, 55#8] ∧ (∀ x ∈ plan55, x.pfx <+: [48#8, 55#8] → x.pfx.length ≤ e.pfx.length)
        ∧ e.barred = false ∧ ∃ c ∈ e.prepend ++ [48#8, 55#8].drop e.strip, c ≠ 44#8)
    ∧ (let e : DialEntry := ⟨[48#8, 48#8, 57#8, 48#8], 5, 0, [], 8#4, true⟩
       e ∈ plan55 ∧ e.pfx <+: [48#8, 48#8, 57#8, 48#8] ∧ e.barred = true
        ∧ ∀ x ∈ plan55, x.pfx <+: [48#8, 48#8, 57#8, 48#8] → x.pfx.length ≤ e.pfx.length)
    ∧ (let e : DialEntry := ⟨[35#8], 0, 1, [], 3#4, false⟩
       e ∈ plan55 ∧ e.pfx <+: [35#8, 44#8] ∧ e.barred = false ∧ (∀ c ∈ e.prepend ++ [35#8, 44#8].drop e.strip, c = 44#8)
        ∧ ∀ x ∈ plan55, x.pfx <+: [35#8, 44#8] → x.pfx.length ≤ e.pfx.length) := by decide

/-- The last values in range, and the first rings out of it. -/
theorem witness_LineSet :
    (let b := num1 3 ++ num1 2 ++ num1 15 ++ num2 14400
     Takes (withRecord ready 0x14 b) .lineSet (rec7 0x14 b) ∧ (3 : Line).val = 3 ∧ 14400 = Rate.bps .r14400 ∧ 15 ≤ 15)
    ∧ (let b := num1 3 ++ num1 2 ++ num1 16 ++ num2 14400
       Takes (withRecord ready 0x14 b) .lineSet (rec7 0x14 b) ∧ 15 < 16) :=
  ⟨⟨takes_withRecord rfl (by decide) rfl, by decide⟩, takes_withRecord rfl (by decide) rfl, by decide⟩

theorem takes_settingsSet (b : List Byte) :
    Takes (withRecord ready 0x15 b) .settingsSet (rec7 0x15 b) :=
  takes_withRecord rfl (by decide) rfl

/-- The records are `takes_settingsSet`. Each numeric range stands at one end in range and one out; the four pressure
settings at the largest that pass, and at the first that fail; STORE_LOW clear with the free count at the mark and
below it. -/
theorem witness_SettingsSet :
    (1 ≤ 16 ∧ 0 < 256 ∧ 16 < 17 ∧ 4 ≤ 4 ∧ 4 < 5 ∧ 3 ≤ 3 ∧ 3 < 4 ∧ 1 ≤ 30 ∧ 30 < 31 ∧ 2 < 3 ∧ 15 < 16)
    ∧ (3 : Fin 4).val = 3 ∧ ready.flag 7 = false ∧ (3 : Fin 4) ≠ ready.settings.defaultBand
    ∧ (let t : List (BitVec 8) := [32#8, 126#8]
       t.length ≤ 20 ∧ ∀ c ∈ t, 32 ≤ c.toNat ∧ c.toNat ≤ 126)
    ∧ (∃ c ∈ ([127#8] : List (BitVec 8)), c.toNat < 32 ∨ 126 < c.toNat)
    ∧ (2047 ≤ 2047 ∧ 2047 < 2048 ∧ 2048 ≤ StoreSize.blocks ready.straps.storeSize ∧ 2047 ≤ 4096 ∧ 4096 ≤ 4096)
    ∧ ¬ (2049 ≤ StoreSize.blocks ready.straps.storeSize) := by
  decide

/-- Records of several pairs: in range at the ends of the ranges, with one setting named twice, and with a value out of
range; the marks and the reserve they change; STORE_LOW and a scan request each way. -/
theorem witness_SettingsSet_pairs :
    Takes (withRecord ready 0x15 (num1 2 ++ (num1 1 ++ num2 0) ++ (num1 13 ++ num1 2))) .settingsSet
      (rec7 0x15 (num1 2 ++ (num1 1 ++ num2 0) ++ (num1 13 ++ num1 2)))
    ∧ (let ps : List (Nat × SettingValue) := [(1, .num 0), (13, .num 2)]
       ps.length < 256 ∧ (ps.map (·.1)).Nodup
        ∧ num1 ps.length ++ ps.flatMap (fun p => num1 p.1 ++ (match p.2 with
            | .num n => if p.1 ∈ [5, 6, 7, 9, 11, 12, 13] then num1 n else num2 n
            | .tag t => text t)) = num1 2 ++ (num1 1 ++ num2 0) ++ (num1 13 ++ num1 2))
    ∧ ¬ ([9, 14, 9] : List Nat).Nodup
    ∧ (0 ≤ 256 ∧ 256 < 512 ∧ 512 ≤ StoreSize.blocks ready.straps.storeSize ∧ 0 ≤ 192 ∧ 192 ≤ 4096)
    ∧ (0 < ready.settings.receiveReserve ∧ 255 ≠ ready.settings.lowMark ∧ 255 ≤ ready.store.freeList.length
      ∧ stocked.store.freeList.length < 4 ∧ (3, SettingValue.num 2049) ∈ [(3, SettingValue.num 2049)]
      ∧ ¬ (2049 ≤ StoreSize.blocks ready.straps.storeSize)) :=
  ⟨takes_withRecord rfl (by decide) rfl, by decide, by decide, by decide, by decide +kernel⟩

/-! ## Witnesses: accounts and jobs -/

/-- `stocked` with account 0 as given. -/
def account0 (a : Account) : State :=
  { stocked with charge := { stocked.charge with accounts := stocked.charge.accounts.set 0 a } }

theorem takes_account (a : Account) (b : List Byte) :
    Takes (withRecord (account0 a) 0x20 b) .accountOpen (rec7 0x20 b)
    ∧ Takes (withRecord (account0 a) 0x21 b) .accountSetBudget (rec7 0x21 b)
    ∧ Takes (withRecord (account0 a) 0x22 b) .accountSuspend (rec7 0x22 b)
    ∧ Takes (withRecord (account0 a) 0x23 b) .accountResume (rec7 0x23 b)
    ∧ Takes (withRecord (account0 a) 0x24 b) .accountClear (rec7 0x24 b)
    ∧ Takes (withRecord (account0 a) 0x25 b) .accountClose (rec7 0x25 b)
    ∧ Takes (withRecord (account0 a) 0x26 b) .accountRead (rec7 0x26 b) := by
  and_intros <;> exact takes_withRecord rfl (Nat.zero_lt_succ 15) rfl

/-- The records are `takes_account`, with the body `num1 a` or `num1 a ++ num4 b`. -/
theorem witness_AccountRecords :
    63 < 64 ∧ (0 : Fin 64).val = 0
    ∧ ((account0 ⟨.free, 0, 0, 0, false⟩).charge.accounts.get 0).state = .free
    ∧ ((account0 ⟨.opened, 9, 8, 1, false⟩).charge.accounts.get 0).state ≠ .free
    ∧ (∃ j ∈ (account0 ⟨.opened, 9, 8, 1, false⟩).jobs.jobs, j.account = 0)
    ∧ (∀ j ∈ (account0 ⟨.opened, 9, 8, 1, false⟩).jobs.jobs, j.account ≠ 1)
    -- the budget reached exactly, and not, with at limit no and yes
    ∧ (let x := (account0 ⟨.opened, 9, 8, 1, false⟩).charge.accounts.get 0
       (8 ≠ 0 ∧ 8 ≤ x.spent) ∧ ¬ (9 ≠ 0 ∧ 9 ≤ x.spent) ∧ x.atLimit = false)
    ∧ ((account0 ⟨.opened, 9, 9, 1, true⟩).charge.accounts.get 0).atLimit = true := by decide

/-- A HELD_ACCOUNT destination of the account with a route that passes the gate exactly. -/
theorem witness_BudgetGate :
    (let s := account0 ⟨.opened, 9, 9, 1, false⟩
     let e := s.charge.entry 2 s.charge.band
     s.jobs.jobs[0]? = some job ∧ job.account = 0
      ∧ (let d : Dest := { dest with state := .heldAccount, route := some route }
         d.state = .heldAccount ∧ d.route = some route ∧ 9 + e.connect + e.pulse ≤ 9)) := by decide

/-- The body of a JOB OPEN with the values at their upper ends. -/
def jobBody (dials : List (List Byte)) : List Byte :=
  num2 65535 ++ num1 0 ++ num1 3 ++ num1 3 ++ num2 65535 ++ num1 1 ++ num1 15 ++ num2 65535 ++ num1 255
    ++ num1 dials.length ++ dials.flatMap text

theorem takes_jobOpen (dials : List (List Byte)) :
    Takes (withRecord (account0 ⟨.opened, 0, 0, 0, false⟩) 0x30 (jobBody dials)) .jobOpen (rec7 0x30 (jobBody dials)) :=
  takes_withRecord rfl (by decide) rfl

/-- The record is `takes_jobOpen`. Dial strings of 24 and of 25 characters; the id taken and free; the account FREE and
not; 31 and 32 jobs; the destinations left just enough and one short. -/
theorem witness_JobOpen :
    (let s := account0 ⟨.opened, 0, 0, 0, false⟩
     let dialled (d : List Byte) : Prop := 1 ≤ d.length ∧ d.length ≤ 24
       ∧ ∀ c ∈ d, (48 ≤ c.toNat ∧ c.toNat ≤ 57) ∨ c = 42#8 ∨ c = 35#8 ∨ c = 44#8
     (65535 ≠ 0 ∧ 0 ≤ 63 ∧ 3 ≤ 3 ∧ 1 ≤ 15 ∧ 15 ≤ 15 ∧ dialled (List.replicate 24 57#8))
      ∧ ¬ dialled (List.replicate 25 57#8)
      ∧ (1 ≤ 48 ∧ 48 < (List.replicate 49 [57#8]).length)
      ∧ (∀ j ∈ s.jobs.jobs, j.id ≠ 65535) ∧ (∃ j ∈ s.jobs.jobs, j.id = 5)
      ∧ (s.charge.accounts.get 0).state ≠ .free ∧ (s.charge.accounts.get 1).state = .free
      ∧ s.jobs.jobs.length < 32 ∧ 32 ≤ (List.replicate 32 job).length
      ∧ 48 ≤ 256 - (s.jobs.jobs.map (fun j => j.dests.length)).sum
      ∧ 256 - ((List.replicate 6 { job with dests := List.replicate 42 dest }).map (fun j => j.dests.length)).sum < 5
      ∧ 3 = Priority.code .bulk ∧ 3 = ReleaseMode.code .whenNotAll) := by decide

/-- `stocked` with job 5 as given. -/
def withJob (j : Job) : State := { stocked with jobs := ⟨[j], 1⟩ }

/-- The job live, live with a cancel pending, ended and absent; 47 destinations and one, or two, more. -/
theorem witness_DestAddJobRemoveJobQuery :
    (let add := num2 5 ++ num1 1 ++ [[57#8]].flatMap text
     Takes (withRecord (withJob job) 0x31 add) .destAdd (rec7 0x31 add))
    ∧ Takes (withRecord (withJob job) 0x35 (num2 5)) .jobRemove (rec7 0x35 (num2 5))
    ∧ Takes (withRecord (withJob job) 0x36 (num2 5 ++ num1 0)) .jobQuery (rec7 0x36 (num2 5 ++ num1 0))
    ∧ ((withJob job).findJob 6 = none ∧ (withJob job).findJob 5 = some job ∧ job.state = .opened ∧ job.cancelling = none
      ∧ 0 < job.dests.length ∧ job.dests.length ≤ 1
      ∧ (withJob { job with state := .done }).findJob 5 = some { job with state := .done }
      ∧ ¬ (({ job with state := .done } : Job).state = .opened ∨ ({ job with state := .done } : Job).state = .closed)
      ∧ ({ job with cancelling := some .now } : Job).cancelling ≠ none
      ∧ (List.replicate 47 dest).length + 1 ≤ 48 ∧ 48 < (List.replicate 47 dest).length + 2)
    -- DEST ADD of no dial string, of one too many, and of one character no dial string holds
    ∧ (∀ dials ∈ ([[], List.replicate 49 [57#8], [[47#8]]] : List (List (List Byte))),
        let add := num2 5 ++ num1 dials.length ++ dials.flatMap text
        Takes (withRecord (withJob job) 0x31 add) .destAdd (rec7 0x31 add)
        ∧ dials.length < 256 ∧ ∀ d ∈ dials, d.length < 256)
    ∧ (1 ≤ [57#8].length ∧ (47#8 : Byte).toNat < 48 ∧ (47#8 : Byte) ∉ [42#8, 35#8, 44#8]) :=
  ⟨takes_withRecord rfl (by decide) rfl, takes_withRecord rfl (by decide) rfl, takes_withRecord rfl (by decide) rfl,
    by decide, fun dials h => ⟨takes_withRecord rfl (by decide) rfl, by revert dials; decide⟩, by decide⟩

/-- Page 4, COMPLETE and not in job 5's list. -/
def page4 : Page := { page with id := 4, holders := [.forward] }

/-- `stocked` with page 4 beside page 3. -/
def twoPages : State := { stocked with store := { stocked.store with pages := [page, page4] } }

theorem witness_PageAttachJobCloseJobCancel :
    Takes (withRecord twoPages 0x32 (num2 5 ++ num1 4)) .pageAttach (rec7 0x32 (num2 5 ++ num1 4))
    ∧ Takes (withRecord twoPages 0x33 (num2 5)) .jobClose (rec7 0x33 (num2 5))
    ∧ Takes (withRecord twoPages 0x34 (num2 5 ++ num1 1)) .jobCancel (rec7 0x34 (num2 5 ++ num1 1))
    ∧ (∀ n c, twoPages.outCall n = some c → c.job ≠ 5)
    ∧ (twoPages.findJob 6 = none ∧ twoPages.findJob 5 = some job ∧ job.state = .opened ∧ job.cancelling = none
      ∧ twoPages.findPage 5 = none ∧ twoPages.findPage 4 = some page4 ∧ page4.source ≠ .received ∧ 4 ∉ job.pages
      ∧ job.pages.length < 64 ∧ Holder.job 5 ∉ page4.holders
      ∧ 3 ∈ job.pages ∧ 64 ≤ (List.replicate 64 4).length ∧ (received []).source = .received
      ∧ ({ job with state := .closed } : Job).state ≠ .opened
      ∧ (∀ d ∈ job.dests, d.state ≠ .bound) ∧ 1 < 2
      ∧ ¬ (({ job with state := .done } : Job).state = .opened ∨ ({ job with state := .done } : Job).state = .closed)) := by
  refine ⟨takes_withRecord rfl (by decide) rfl, takes_withRecord rfl (by decide) rfl,
    takes_withRecord rfl (by decide) rfl, fun n c h => ?_, by decide⟩
  have hn : ∀ n, twoPages.outCall n = none := by decide
  rw [hn n] at h
  nomatch h

/-- A call of line 1 carries the job; a job with NOW in force; a page that has the holder already. -/
theorem witness_PageAttachJobCloseJobCancel_onLine :
    (onCall .send call []).outCall 1 = some call ∧ call.job = 5
    ∧ ({ job with cancelling := some .now } : Job).cancelling = some .now ∧ job.cancelling ≠ some .now
    ∧ Holder.job 5 ∈ ({ page4 with holders := [.job 5] } : Page).holders := by decide

/-- Job 5 as opened, ended, cancelling with a destination BOUND and none, and CLOSED with all final and one not. -/
theorem witness_JobSettles :
    (withJob job).findJob 5 = some job
    ∧ (let j : Job := { job with state := .cancelled }
       (withJob j).findJob 5 = some j ∧ j.state = .cancelled)
    ∧ (let j : Job := { job with cancelling := some .now, dests := [{ dest with state := .bound }] }
       (withJob j).findJob 5 = some j ∧ j.state = .opened ∧ j.cancelling ≠ none
        ∧ (j.dests.filter (fun d => decide (d.state = .bound))).length ≠ 0)
    ∧ (let j : Job := { job with cancelling := some .now }
       j.cancelling ≠ none ∧ (j.dests.filter (fun d => decide (d.state = .bound))).length = 0)
    ∧ (let j : Job := { job with state := .closed, dests := [{ dest with state := .failed }] }
       j.state = .closed ∧ j.cancelling = none
        ∧ ∀ d ∈ j.dests, d.state = .done ∨ d.state = .failed ∨ d.state = .cancelled)
    ∧ (∃ d ∈ job.dests, ¬ (d.state = .done ∨ d.state = .failed ∨ d.state = .cancelled)) := by decide

theorem witness_JobTellsItsLines :
    (onCall .awaitAnswer call []).outCall 1 = some call ∧ ((onCall .awaitAnswer call []).chan 1).state = .awaitAnswer
    ∧ ((onCall .dial call []).chan 1).state = .dial ∧ ((onCall .train call []).chan 1).state = .train
    ∧ ((onCall .send call []).chan 1).state = .send ∧ call.phase ≠ some .pageWait
    ∧ ({ call with phase := some .pageWait } : OutCall).phase = some .pageWait := by decide

/-! ## Witnesses: pages and the scanner -/

/-- A holder the page has not, one of two, the last of a page with blocks, and of a page with none; a free list at the
reserve and above it, at the low mark after the grant and below it. -/
theorem witness_StoreGivesAndTakesBlocks :
    stocked.findPage 9 = none ∧ stocked.findPage 3 = some page ∧ Holder.forward ∉ page.holders
    ∧ (Holder.job 5 ∈ page.holders ∧ page.holders.erase (.job 5) = [])
    ∧ (let p : Page := { page with holders := [.job 5, .forward] }
       p.holders.erase (.job 5) ≠ [])
    ∧ page.chain.map (·.block) ++ (page.pendingBurst.filterMap (fun e => e)).map (·.block) ≠ []
    ∧ (let p : Page := { page with chain := [] }
       p.chain.map (·.block) ++ (p.pendingBurst.filterMap (fun e => e)).map (·.block) = [])
    ∧ stocked.store.freeList.length ≤ stocked.settings.receiveReserve ∧ stocked.store.freeList ≠ []
    ∧ (let st := { stocked.settings with receiveReserve := 2, lowMark := 2 }
       st.receiveReserve < stocked.store.freeList.length ∧ st.lowMark ≤ [1, 2].length)
    ∧ (stocked.store.storeLow = false ∧ [1, 2].length < stocked.settings.lowMark)
    -- a line told: a callee that holds its caller, one that does not, and a line with no call
    ∧ (let c : InCall := { answered with holding := true }
       ((onAnswer .receive c []).chan 1).call = some (.incoming c) ∧ c.holding = true)
    ∧ ((onAnswer .receive answered []).chan 1).call = some (.incoming answered) ∧ answered.holding = false
    ∧ (ready.chan 1).call = none := by decide

/-- The part ready with page 3 in CODING on block 0, room for 8 bits left in it. -/
def partWritten : State :=
  { ready with store := { ready.store with
    freeList := List.range' 1 2047, pages := [{ page with chain := [⟨0, 2040⟩] }] } }

theorem witness_WrittenBitsAreRead :
    Memory.wf partWritten.store.mem = true ∧ StoreWhole partWritten
    ∧ (∀ q ∈ partWritten.store.pages, ∀ e ∈ q.chain, e.used ≤ 2048)
    ∧ partWritten.findPage 3 = some { page with chain := [⟨0, 2040⟩] }
    ∧ ∃ t left, State.writeChain (2 * [true, false].length + 1) partWritten 3 [true, false] = (t, left) :=
  ⟨by decide, ⟨(List.perm_append_comm (l₁ := List.range' 1 2047) (l₂ := [0])).trans (.of_eq (by decide +kernel)),
    by decide, by decide, by decide⟩, by decide, rfl, _, _, rfl⟩

theorem witness_RepairGivesAValidLine : 1 ≤ 1 ∧ (∀ x ∈ [20, 136], 1 ≤ x) ∧ [100, 20, 136].sum = 256 := by decide

/-- Widths 1 and 2,040; the first line of a page, a forced one, one like its reference, and one shorter as DELTA. -/
theorem witness_DecodeOfEncode :
    (validRuns 1 [0, 1] = true ∧ validRuns 2040 [2040] = true ∧ validRuns 256 [100, 20, 136] = true)
    ∧ (⟨4, [256], 0, true⟩ : Encoder).first = true
    ∧ (let e : Encoder := ⟨4, [100, 20, 136], 3, false⟩
       e.k ≤ e.dist + 1)
    ∧ (let e : Encoder := ⟨4, [100, 20, 136], 2, false⟩
       e.first = false ∧ e.dist + 1 < e.k ∧ [100, 20, 136] = e.ref ∧ [102, 20, 134] ≠ e.ref
        ∧ (deltaBits (deltaLine [100, 20, 40, 3, 93] e.ref)).length < (plainBits [100, 20, 40, 3, 93]).length
        ∧ (plainBits [102, 20, 134]).length ≤ (deltaBits (deltaLine [102, 20, 134] e.ref)).length)
    -- a bad line: an overrun by one, the reserved values next to the good ones, the data ending before and in a symbol
    ∧ ([100, 155].sum < 256 ∧ 256 < [100, 155].sum + 2 ∧ [2039].sum < 2040 ∧ 71 < 72 ∧ 2041 ≤ 2041)
    ∧ ([] <+: runSymbol 8 ∧ [] ≠ runSymbol 8 ∧ (runSymbol 2040).take 12 <+: runSymbol 2040
      ∧ (runSymbol 2040).take 12 ≠ runSymbol 2040) := by decide

/-- A page of source LINK in CODING with its context, in the part ready. -/
def codingPage : Page := { page with state := .coding, holders := [.coding .link], chain := [] }

/-- The link context at work on page 3. -/
def linkCoding : Coding := ⟨3, 256, .fine, ⟨4, [256], 0, true⟩, []⟩

/-- The part ready with page 3 in CODING from the link, the free list given. -/
def codingLink (free : List Nat) : State :=
  { ready with
    store := { ready.store with pages := [codingPage], freeList := free }
    linkCtx := some linkCoding }

theorem witness_PageOpenCloseAbort :
    Takes (withRecord stocked 0x40 (num2 2040 ++ num1 1)) .pageOpen (rec7 0x40 (num2 2040 ++ num1 1))
    ∧ Takes (withRecord (codingLink []) 0x42 (num1 3)) .pageClose (rec7 0x42 (num1 3))
    ∧ Takes (withRecord (codingLink []) 0x43 (num1 3)) .pageAbort (rec7 0x43 (num1 3))
    -- the context idle and not; widths at the ends of the range; the lowest unused id
    ∧ (stocked.linkCtx = none ∧ (codingLink []).linkCtx ≠ none ∧ (256 ≤ 2040 ∧ 2040 ≤ 2040 ∧ 2040 % 8 = 0)
      ∧ ¬ (256 ≤ 248) ∧ 1 < 2 ∧ (¬ ∃ p ∈ stocked.store.pages, p.id = 0) ∧ ∀ k, k < 0 → ∃ p ∈ stocked.store.pages, p.id = k)
    -- all 128 ids used
    ∧ (∀ k, k < 128 → ∃ p ∈ (List.range 128).map (fun i => ({ page with id := i } : Page)), p.id = k)
    ∧ ((codingLink []).findPage 9 = none ∧ (codingLink []).findPage 3 = some codingPage ∧ codingPage.source = .link
      ∧ codingPage.state = .coding ∧ stocked.findPage 3 = some page ∧ page.state ≠ .coding)
    -- a job that lost its page: not in the table, OPEN, CLOSED
    ∧ (stocked.findJob 9 = none ∧ stocked.findJob 5 = some job ∧ job.state ≠ .closed
      ∧ (let j : Job := { job with state := .closed, pages := [] }
         ({ stocked with jobs := ⟨[j], 1⟩ } : State).findJob 5 = some j ∧ j.state = .closed)) := by
  refine ⟨takes_withRecord rfl (by decide) rfl, takes_withRecord rfl (by decide) rfl,
    takes_withRecord rfl (by decide) rfl, ⟨by decide, by decide, by decide, by decide, by decide, by decide,
      fun k h => absurd h (Nat.not_lt_zero k)⟩, fun k h => ⟨{ page with id := k }, ?_, rfl⟩, by decide, by decide⟩
  exact List.mem_map.2 ⟨k, List.mem_range.2 h, rfl⟩

/-- A line granted its block, and one refused it. -/
theorem witness_RasterLine :
    (let b := num1 3 ++ num2 1 ++ [256].flatMap num2
     AtHead (withRecord (codingLink []) 0x41 b) .rasterLine (rec7 0x41 b))
    ∧ State.reset.loader.ready = false ∧ (codingLink []).loader.ready = true
    ∧ (List.replicate 1020 1).length ≤ 1020 ∧ 1020 < (List.replicate 1021 1).length
    ∧ (codingLink []).findPage 9 = none ∧ (codingLink []).findPage 3 = some codingPage
    ∧ codingPage.source = .link ∧ codingPage.state = .coding ∧ (received []).source ≠ .link ∧ page.state ≠ .coding
    ∧ (codingLink []).linkCtx = some linkCoding
    ∧ (State.writeChain 31 (codingLink []) 3 (plainBits [256])).2 ≠ []
    ∧ ((State.writeChain 31 (codingLink []) 3 (plainBits [256])).1.findPage 3).isSome = true
    ∧ (State.writeChain 3 { codingLink [] with store := { (codingLink []).store with
        pages := [{ codingPage with chain := [⟨9, 2046⟩] }] } } 3 [true, true]).2 = [] :=
  ⟨atHead_withRecord rfl (by decide), rfl, rfl, by simp, by simp, by decide⟩

theorem witness_PageReadAndPageRelease :
    (let p : Page := { page with holders := [.forward] }
     let s : State := { stocked with store := { stocked.store with pages := [p] } }
     Takes (withRecord s 0x62 (num1 3 ++ num2 0 ++ num1 32)) .pageRead (rec7 0x62 (num1 3 ++ num2 0 ++ num1 32))
      ∧ Takes (withRecord s 0x63 (num1 3)) .pageRelease (rec7 0x63 (num1 3))
      ∧ (s.findPage 9 = none ∧ s.findPage 3 = some p ∧ Holder.forward ∈ p.holders ∧ Holder.forward ∉ page.holders
        ∧ (1 ≤ 32 ∧ 32 ≤ 32 ∧ 0 < p.chain.length) ∧ (p.chain ≠ [] ∧ p.chain.length ≤ 1) ∧ 32 < 33
        ∧ s.link.blocks.length + min 32 (p.chain.length - 0) ≤ 32
        ∧ 32 < (List.replicate 32 (⟨0#8, 0, 0, 0, []⟩ : BlockItem)).length + min 32 (p.chain.length - 0))) :=
  ⟨takes_withRecord rfl (by decide) rfl, takes_withRecord rfl (by decide) rfl, by decide⟩

/-- The part ready with page 3 in CODING from the scanner, its held bits given. -/
def scanning (held : Bits) : State :=
  { ready with
    store := { ready.store with pages := [{ codingPage with source := .scan, holders := [.coding .scan] }] }
    scanCtx := some ⟨3, 256, .fine, ⟨4, [256], 0, true⟩, held⟩
    scanner := ⟨.scanning, some .pageEnd⟩ }

theorem witness_ScannerTransfers :
    -- stall, by the part not ready and by held bits
    (State.reset.loader.ready = false ∧ ∃ c, (scanning [true]).scanCtx = some c ∧ c.held ≠ [])
    ∧ ¬ (ready.loader.ready = false ∨ ∃ c, ready.scanCtx = some c ∧ c.held ≠ [])
    ∧ ¬ ((scanning []).loader.ready = false ∨ ∃ c, (scanning []).scanCtx = some c ∧ c.held ≠ [])
    ∧ ((scanning []).scanner.port = .scanning ∧ (scanning []).scanner.presented = some .pageEnd
      ∧ ready.scanner.port = .idle ∧ ready.scanner.presented = none
      ∧ (⟨.discarding, none⟩ : Scanner).port = .discarding
      ∧ (∃ w x, (⟨.scanning, some (.pageStart 256 0)⟩ : Scanner).presented = some (.pageStart w x))
      ∧ (∀ w x, (scanning []).scanner.presented ≠ some (.pageStart w x)) ∧ ready.scanCtx = none
      ∧ (scanning []).scanCtx = some ⟨3, 256, .fine, ⟨4, [256], 0, true⟩, []⟩
      ∧ (scanning []).findPage 3 = some { codingPage with source := .scan, holders := [.coding .scan] }) := by
  refine ⟨⟨rfl, _, rfl, by decide⟩, ?_, ?_, by decide, by decide, by decide, by decide, by decide,
    ⟨256, 0, rfl⟩, (fun _ _ h => nomatch h), rfl, by decide, by decide⟩
  · rintro (h | ⟨c, h, _⟩) <;> nomatch h
  · rintro (h | ⟨c, h, h'⟩)
    · nomatch h
    · cases h
      exact h' rfl

/-- Held bits that find room, and held bits whose request is refused. -/
theorem witness_ScannerTransfers_held :
    (let c : Coding := ⟨3, 256, .fine, ⟨4, [256], 0, true⟩, [true]⟩
     let s : State := scanning [true]
     let chained : State := { s with store := { s.store with
       pages := [{ codingPage with source := .scan, holders := [.coding .scan], chain := [⟨0, 0⟩] }] } }
     let full : State := { s with store := { s.store with freeList := [] } }
     chained.scanCtx = some c ∧ full.scanCtx = some c
     ∧ (State.writeChain (2 * c.held.length + 1) chained c.page c.held).2 = []
     ∧ (State.writeChain (2 * c.held.length + 1) full c.page c.held).2 ≠ []
     ∧ ((State.writeChain (2 * c.held.length + 1) chained c.page c.held).1.findPage c.page).isSome = true) := by
  decide


/-! ## Witnesses: line channels and calls -/

theorem witness_IgnoredOnTheLine :
    ((onCall .clear call []).chan 1).state = .clear ∧ ((onCall .clear call []).chan 1).deadline .pumpDial = none
    ∧ ((onCall .dial call []).chan 1).state ∉ [.answering, .greet, .train, .send, .receive]
    ∧ (Timer.hold, Instr.holdTimerExpiry 1) ∈ [(Timer.tally, Instr.tallyWaitExpiry 1), (.hold, .holdTimerExpiry 1)]
    ∧ ([0#8] : List Byte) ≠ [] ∧ ([2#8] : List Byte) ≠ [0#8] ∧ ([2#8] : List Byte) ≠ [1#8]
    ∧ ([0#8] : List Byte).length ≠ 2 ∧ (List.replicate 5 0#8).length ≠ 6 ∧ ([0#8] : List Byte).length < 2
    ∧ 31 < (32#8 : Byte).toNat ∧ 1 < (2#8 : Byte).toNat
    ∧ (0x25#8 : Byte).toNat * 256 + (0x81#8 : Byte).toNat ∉ [2400, 4800, 7200, 9600, 12000, 14400] := by decide

/-- Dial positions at the first character, at the pause and past the last character. -/
theorem witness_Dialling :
    (let s := onCall .seize call [(.dialTone, 3000)]
     s.outCall 1 = some call ∧ (s.chan 1).state = .seize)
    ∧ (let c : OutCall := { call with dialPos := some 1 }
       let s := onCall .dial c [(.pumpDial, 3000)]
       s.outCall 1 = some c ∧ (s.chan 1).state = .dial ∧ c.dialPos = some 1
        ∧ (s.chan 1).deadline .pumpDial = some 3000)
    ∧ (let c : OutCall := { call with dialPos := some 2 }
       let s := onCall .dial c [(.pause, 3000)]
       s.outCall 1 = some c ∧ c.dialPos = some 2 ∧ (s.chan 1).deadline .pause = some 3000) := by decide

/-- The meter of a call on line 1. -/
def meter : Meter := ⟨5, 0, 0, [57#8], 2, 1, 3, 1000, 100, 4, 77, 900⟩

/-- `onCall` with a meter on line 1. -/
def metered (st : ChanState) (c : OutCall) : State :=
  { onCall st c [] with charge := { stocked.charge with meters := stocked.charge.meters.set 1 (some meter) } }

theorem witness_OutgoingCallEnds :
    (onCall .seize call []).outCall 1 = some call ∧ (onCall .seize call []).charge.meters.get 1 = none
    ∧ (metered .send call).charge.meters.get 1 = some meter
    ∧ ([(.dialTone, .seize), (.pumpDial, .dial), (.answer, .awaitAnswer), (.caps, .greet), (.termsReply, .greet),
        (.train, .train)] : List (Timer × ChanState)).all
        (fun x => ((onCall x.2 call [(x.1, 900)]).chan 1).deadline x.1 == some 900) = true
    ∧ ([.seize, .dial, .awaitAnswer, .greet, .train, .send] : List ChanState).all
        (fun x => ((onCall x call []).chan 1).state == x) = true
    ∧ ((onCall .greet call [(.termsReply, 900)]).chan 1).deadline .termsReply ≠ none
    ∧ call.phase ≠ some .pageWait
    -- the job and the destination charged, and those that are not in the table
    ∧ (stocked.findJob 9 = none ∧ stocked.findJob 5 = some job ∧ job.dests[1]? = none ∧ job.dests[0]? = some dest) := by
  decide

/-- Job 5 with a cancel pending; CLOSED with all delivered; and not complete, its destination's attempts one and two
below the retry limit of 3. -/
theorem witness_CallEndReport :
    (withJob job).findJob 5 = some job ∧ job.dests[0]? = some dest
    ∧ ({ job with cancelling := some .now } : Job).cancelling ≠ none
    ∧ (let j : Job := { job with state := .closed, dests := [{ dest with delivered := 1 }] }
       j.cancelling = none ∧ j.state = .closed ∧ 1 = j.pages.length)
    ∧ (job.cancelling = none ∧ ¬ (job.state = .closed ∧ dest.delivered = job.pages.length))
    ∧ (CallOutcome.lineReset ∈ [.noTone, .busy, .noAnswer, .linePoor, .remoteGone, .heldTooLong, .declined,
        .pageRejected, .partSent, .lineReset])
    ∧ job.retryLimit ≤ 2 + 1 ∧ 1 + 1 < job.retryLimit := by decide

/-- Line 1 in IDLE or RING_IN, its rings to answer and the free count as given. -/
def ringing (st : ChanState) (rings : Option Nat) (toAnswer free : Nat) : State :=
  { withLine stocked ⟨st, rings, none, none, [(.ringGap, 6000)]⟩ with
    store := { stocked.store with freeList := List.range free }
    disp := { stocked.disp with lineTable := stocked.disp.lineTable.set 1 { LineEntry.builtIn with rings := toAnswer } } }

theorem witness_IncomingCall :
    -- the first ring, answered at once and not: the free count at the answer floor and one below
    (let s := ringing .idle none 1 192
     (s.chan 1).state = .idle ∧ 1 ≤ (s.lineEntry 1).rings ∧ (s.lineEntry 1).rings ≤ 1 ∧ (s.lineEntry 1).mode ≠ .send
      ∧ (s.lineEntry 1).inService = true ∧ s.settings.answerFloor ≤ s.store.freeList.length
      ∧ s.store.pages.length < 128)
    ∧ ¬ (ringing .idle none 1 191).settings.answerFloor ≤ (ringing .idle none 1 191).store.freeList.length
    -- a later ring, the count at its largest
    ∧ (let s := ringing .ringIn (some 255) 0 192
       (s.chan 1).state = .ringIn ∧ (s.chan 1).rings = some 255 ∧ 255 ≤ 255 ∧ ¬ 1 ≤ (s.lineEntry 1).rings
        ∧ (s.chan 1).deadline .ringGap = some 6000)
    -- an answered line
    ∧ (let s := onAnswer .answering answered [(.answerTone, 99)]
       s.inCall 1 = some answered ∧ (s.chan 1).state = .answering ∧ (s.chan 1).deadline .answerTone = some 99)
    ∧ ([.silence, .train, .lastPage] : List Timer).all
        (fun t => ((onAnswer .receive answered [(t, 99)]).chan 1).deadline t == some 99) = true
    ∧ ((onAnswer .receive answered []).chan 1).state ∈ [.greet, .train, .receive] := by decide

/-- `stocked` with line 1's channel and *stop pending* given. -/
def stopping (st : ChanState) (pending : Bool) : State :=
  { withLine stocked ⟨st, none, none, none, []⟩ with
    disp := { stocked.disp with
      lineTable := stocked.disp.lineTable.set 1 { LineEntry.builtIn with stopPending := pending } } }

theorem takes_lineRecord (st : ChanState) (p : Bool) (b : List Byte) :
    Takes (withRecord (stopping st p) 0x51 b) .lineStop (rec7 0x51 b)
    ∧ Takes (withRecord (stopping st p) 0x52 b) .lineStart (rec7 0x52 b)
    ∧ Takes (withRecord (stopping st p) 0x53 b) .lineReset (rec7 0x53 b) := by
  and_intros <;> exact takes_withRecord rfl (Nat.zero_lt_succ 15) rfl

/-- The records are `takes_lineRecord`, with the body `num1 1` or `num1 4`. -/
theorem witness_LineControl :
    3 < 4 ∧ (1 : Line).val = 1
    ∧ ([.idle, .ringIn, .outOfService, .clear] : List ChanState).all
        (fun x => ((stopping x false).chan 1).state == x) = true
    ∧ ((stopping .clear true).chan 1).state ∉ [.idle, .ringIn, .outOfService]
    ∧ ((stopping .clear true).lineEntry 1).stopPending = true
    ∧ ((stopping .clear false).lineEntry 1).stopPending = false := by decide

theorem witness_GuardsAndTimes :
    (let s := withLine ready ⟨.clear, none, none, none, [(.clearGuard, 2000)]⟩
     (s.chan 1).deadline .clearGuard = some 2000 ∧ (s.lineEntry 1).stopPending = false)
    ∧ ((stopping .clear true).lineEntry 1).stopPending = true
    -- the guard of a RESTART on a line that goes to IDLE, and of a part not ready
    ∧ (let s := withLine ready ⟨.outOfService, none, none, none, [(.restartGuard, 2000)]⟩
       (s.chan 1).deadline .restartGuard = some 2000 ∧ s.loader.ready = true
        ∧ ((s.chan 1).stop .restartGuard).state = .outOfService ∧ (s.lineEntry 1).inService = true)
    ∧ ¬ (State.reset.loader.ready = true)
    -- a next attempt time
    ∧ (let x : Dest := { dest with state := .waitingRetry, nextAttempt := some (.waits 60000) }
       let j : Job := { job with dests := [x] }
       (withJob j).findJob 5 = some j ∧ j.dests[0]? = some x ∧ x.state = .waitingRetry ∧ x.nextAttempt = some (.waits 60000))
    ∧ ({ dest with nextAttempt := some .come } : Dest).nextAttempt = some .come ∧ dest.state ≠ .waitingRetry
    -- the last slot of day 6, whose end opens the first slot of day 0
    ∧ (let s : State := { ready with charge := { ready.charge with clock := ⟨6, 86399999⟩ } }
       let u := s.advanceTo (s.timebase + (1800000 - s.charge.clock.ms % 1800000))
       u.charge.clock = ⟨0, 0⟩ ∧ (96 : Fin 144).val = u.charge.clock.ms / 1800000 + 48 * 2) := by decide

/-- The clock set, and at `ms` of day 1 in the first slot or on its end; the second slot of a weekday names band 1. -/
def beforeSlot1 (ms : Nat) : State :=
  { ready with
    charge := { ready.charge with clock := ⟨1, ms⟩, schedule := ready.charge.schedule.set 1 1 }
    disp := { ready.disp with flags := 0x81#16 } }

/-- No boundary passed, one at the time itself, one before it, and one at the moment left. -/
theorem witness_GuardsAndTimes_band :
    (∃ slot : Fin 144, slot.val = (beforeSlot1 1799999).charge.clock.ms / 1800000)
    ∧ ¬ (1799999 % 1800000 = 0 ∨ 1800000 < 1799999 % 1800000 + 1)
    ∧ (1799999 % 1800000 = 0 ∨ 1800000 < 1799999 % 1800000 + 2)
    ∧ (1800000 % 1800000 = 0 ∨ 1800000 < 1800000 % 1800000 + 1)
    ∧ ((beforeSlot1 1799999).charge.clock.day ≤ 6 ∧ (beforeSlot1 1799999).charge.clock.ms ≤ 86399999)
    ∧ (1 : Fin 144).val = 1800000 / 1800000 + 48 * 0 := by
  refine ⟨⟨0, by decide⟩, by decide⟩

/-- R157: a time that comes 2 ms on, past the boundary 1 ms on, finds the band of the second slot, with its flag; a
boundary at that time itself is left to SLOT_BOUNDARY. -/
theorem test_band_follows_a_boundary_passed :
    ((beforeSlot1 1799999).advanceTo 2).charge.band = 1 ∧ ((beforeSlot1 1799999).advanceTo 2).disp.flags = 0x82#16
    ∧ ((beforeSlot1 1799999).advanceTo 1).charge.band = 0
    ∧ ((beforeSlot1 1800000).advanceTo 1).charge.band = 1 := by decide

theorem witness_IdleStep_boundary :
    (beforeSlot1 1800000).pending = [] ∧ (∀ k r, ¬ AtHead (beforeSlot1 1800000) k r)
    ∧ ((beforeSlot1 1800000).charge.clock.ms % 1800000 = 0
      ∧ (beforeSlot1 1800000).findBand ≠ (beforeSlot1 1800000).charge.band)
    ∧ ¬ ((beforeSlot1 1799999).charge.clock.ms % 1800000 = 0) ∧ ¬ (ready.findBand ≠ ready.charge.band) :=
  ⟨rfl, (fun _ _ h => nomatch h.head), by decide, by decide, by decide⟩

/-- An idle machine that stands at a boundary whose band has not been found. -/
theorem test_idle_finds_the_boundary :
    step (beforeSlot1 1800000) = .next { beforeSlot1 1800000 with pending := [.slotBoundary] } := by rfl

/-! ## Witnesses: dispatch and charging -/

/-- All lines IDLE, account 0 OPEN, job 5 with page 3, and one dial plan entry for the prefix 9. -/
def dispatching (barred : Bool) (mask : BitVec 4) : State :=
  { stocked with
    disp := { stocked.disp with plan := [⟨[57#8], 2, 0, [], mask, barred⟩], passRequest := true }
    charge := { stocked.charge with accounts := stocked.charge.accounts.set 0 ⟨.opened, 0, 0, 0, false⟩ }
    lines := PerLine.all ⟨.idle, none, none, none, []⟩ }

theorem witness_DispatchPass :
    ¬ (ready.disp.passRequest = true ∧ ready.loader.ready = true)
    ∧ ((dispatching false 15#4).disp.passRequest = true ∧ (dispatching false 15#4).loader.ready = true
      ∧ (dispatching false 15#4).findJob 5 = some job ∧ job.dests[0]? = some dest)
    -- no route, a barred one, and a route
    ∧ lookup [] dest.dial = .noRoute
    ∧ lookup (dispatching true 15#4).disp.plan dest.dial = .barred ⟨dest.dial, 2, 15#4⟩
    ∧ lookup (dispatching false 15#4).disp.plan dest.dial = .route ⟨dest.dial, 2, 15#4⟩
    -- the gate
    ∧ stocked.gate 0 2 = false ∧ (dispatching false 15#4).gate 0 2 = true
    -- no slot, or no line that fits; line 3 the lowest that fits a mask of it alone
    ∧ (32 ≤ 32 ∧ ∀ n : Line, ¬ ((ready.chan n).state = .idle))
    ∧ (let s := dispatching false 8#4
       let spare (n : Line) : Bool := (s.chan n).state == .idle && (s.lineEntry n).inService
         && (s.lineEntry n).mode != .send
       let fits (n : Line) : Prop := (s.chan n).state = .idle ∧ (s.lineEntry n).inService = true
         ∧ (s.lineEntry n).mode ≠ .receive ∧ (8#4).getLsbD n.val = true
         ∧ (job.priority = .flash
           ∨ s.settings.lineReserve ≤ (allLines.filter (fun k => k != n && spare k)).length)
       s.charge.slots < 32 ∧ fits 3 ∧ ∀ k, k < (3 : Line) → ¬ fits k) := by decide

theorem witness_CallsAreCharged :
    ((onCall .dial call []).outCall 1 = some call ∧ ((onCall .dial call []).chan 1).state = .dial)
    ∧ ((onCall .awaitAnswer call []).chan 1).state = .awaitAnswer
    ∧ (metered .send call).charge.meters.get 1 = some meter
    ∧ ((metered .send call).charge.accounts.get meter.account).calls ≤ 4294967295
    ∧ ready.charge.meters.get 1 = none := by decide

/-! ## Witnesses: the line procedure -/

/-- A caller past TERMS, its call form and its agreed ceiling found. -/
def greeted : OutCall := { call with termsSent := true, form := some .plainOnly, ceiling := some .r7200 }

/-- The remote's CAPS frame at the ends of its ranges, its tag of 20 characters; a callee that offered 9,600. -/
theorem witness_GreetingAndTraining :
    (let s := onCall .greet call [(.caps, 8000)]
     s.outCall 1 = some call ∧ (s.chan 1).state = .greet ∧ (256 ≤ 2040 ∧ 2040 ≤ 2040 ∧ 2040 % 8 = 0)
      ∧ 40 ∈ [0, 5, 10, 20, 40] ∧ ((List.replicate 20 126#8).length ≤ 20
        ∧ ∀ c ∈ List.replicate 20 (126#8 : Byte), 32 ≤ c.toNat ∧ c.toNat ≤ 126)
      ∧ call.termsSent = false ∧ s.findDest call.job call.dest = some (job, dest))
    ∧ (let s := onCall .greet greeted [(.termsReply, 6000)]
       s.outCall 1 = some greeted ∧ greeted.termsSent = true ∧ greeted.form = some .plainOnly
        ∧ greeted.ceiling = some .r7200 ∧ (s.chan 1).deadline .termsReply ≠ none)
    ∧ (let s := onCall .train greeted [(.train, 15000)]
       (s.chan 1).state = .train ∧ s.findDest greeted.job greeted.dest = some (job, dest)
        ∧ job.pages[dest.delivered]? = some page.id ∧ s.findPage page.id = some page ∧ page.state = .complete)
    ∧ (let c : InCall := { answered with offered := some .r9600 }
       (onAnswer .greet c []).inCall 1 = some c ∧ ((onAnswer .greet c []).chan 1).state = .greet
        ∧ c.offered = some .r9600 ∧ Rate.bps .r9600 ≤ Rate.bps .r9600 ∧ Rate.bps .r9600 < Rate.bps .r12000)
    ∧ (let c : InCall := { answered with ceiling := some .r9600 }
       (onAnswer .train c []).inCall 1 = some c ∧ ((onAnswer .train c []).chan 1).state = .train
        ∧ c.ceiling = some .r9600) := by decide

theorem witness_PageOpening :
    (let c : OutCall := { greeted with caps := some ⟨.plainOnly, 256, true, .r7200, 40⟩ }
     c.caps = some ⟨.plainOnly, 256, true, .r7200, 40⟩ ∧ c.form = some .plainOnly) := by decide

/-- `sending` with page 3 of one PLAIN line of width 256, in a job of the state given. -/
def bursting (c : OutCall) (st : JobState) (r : Recoder) : State :=
  { withLine stocked ⟨.send, none, some (.outgoing c), some r, [(.tally, 900)]⟩ with
    jobs := ⟨[{ job with state := st }], 1⟩
    store := { stocked.store with
      pages := [{ page with chain := [⟨9, 15⟩] }], mem := Memory.writeBits [] 9 0 (plainBits [256]) } }

/-- The Recoder at the end of that page. -/
def recoderAtEnd : Recoder := { recoder with dec := { recoder.dec with pos := 15 } }

theorem witness_BurstAndPageEnd :
    (let c : OutCall := { call with rate := some .r2400 }
     let p : Page := { page with chain := [⟨9, 15⟩] }
     (bursting c .closed recoder).findPage recoder.page = some p ∧ c.rate = some .r2400
      -- stream data left, and none
      ∧ (recoder.burst .r2400 ((bursting c .closed recoder).pageBits p)).1 ≠ []
      ∧ (recoderAtEnd.burst .r2400 ((bursting c .closed recoderAtEnd).pageBits p)).1 = []
      -- LAST by the job CLOSED, by *end after page*, and MORE
      ∧ ((bursting c .closed recoder).findJob c.job = some { job with state := .closed }
        ∧ job.pages.getLast? = some recoder.page)
      ∧ ({ c with endAfter := some .cancelled } : OutCall).endAfter ≠ none
      ∧ (c.endAfter = none ∧ (bursting c .opened recoder).findJob c.job = some job ∧ job.state ≠ .closed)
      ∧ ((bursting c .closed recoder).chan 1).recoder = some recoder)
    -- the shortest and the longest burst, which is also the shortest carry that fills one
    ∧ ([true] : Bits) ≠ [] ∧ (List.replicate 65536 true).length ≤ 65536
    ∧ 65536 ≤ ({ recoder with carry := List.replicate 65536 true } : Recoder).carry.length
    ∧ (let data := plainBits [100, 20, 136] ++ markSame
       let d : Decoder := ⟨3, 256, data.length - 2, [100, 20, 136], [100, 20, 136], 1, 0⟩
       let e : Decoder := ⟨3, 256, data.length, [100, 20, 136], [100, 20, 136], 2, 0⟩
       -- a line, and its second one; no line where the data has ended
       recoder.dec.next data = some (⟨[100, 20, 136], false, plainBits [100, 20, 136], markSame⟩, d)
        ∧ d.next data = some (⟨[100, 20, 136], false, markSame, []⟩, e) ∧ e.next data = none
        ∧ recoder.mode = .copy ∧ recoder.nextLine data = some (plainBits [100, 20, 136], { recoder with dec := d })
        ∧ ({ recoder with dec := e } : Recoder).nextLine data = none
        -- a line cut at a run's end and inside a run, and at its whole width
        ∧ (validRuns 120 [100, 20] = true ∧ runsToPixels [100, 20] = (runsToPixels [100, 20, 136]).take 120)
        ∧ (validRuns 1 [1] = true ∧ runsToPixels [1] = (runsToPixels [100, 20, 136]).take 1)
        ∧ validRuns 256 [100, 20, 136] = true
        ∧ runsToPixels [100, 20] = List.zipWith (· || ·) ((runsToPixels [100, 20, 136]).take 120)
            ((runsToPixels [100, 20, 136]).take 120)) :=
  ⟨by decide +kernel, by decide, Nat.le_of_eq List.length_replicate,
    Nat.le_of_eq (List.length_replicate (n := 65536) (a := true)).symm, by decide +kernel⟩

/-- A caller in CHECKING with three blocks out. -/
def checking (rounds : Nat) (rate : Rate) : OutCall :=
  { call with
    rate := some rate, rounds := rounds, phase := some .checking, burstBit := true, anyBurst := true
    burst := [[1#8, 2#8], [3#8], [4#8, 5#8, 6#8]] }

theorem witness_TallyAndHold :
    (let c := checking 3 .r2400
     let s := sending c [(.tally, 900)]
     s.outCall 1 = some c ∧ c.rate = some .r2400 ∧ (s.chan 1).state = .send
      -- the missing set of all ones names the three positions sent; the hold lengths at their ends
      ∧ (4294967295 < 4294967296 ∧ 30 ≤ 30)
      ∧ (∀ i : Fin 32, (7#32).getLsbD i.val = (decide (i.val < c.burst.length) && Nat.testBit 4294967295 i.val))
      ∧ (c.phase = some .checking ∧ true = c.burstBit ∧ false ≠ c.burstBit)
      -- at once for an empty set without hold and for the fourth round at 2,400 bit/s; else held
      ∧ (0 = 0 ∨ ((0#32) ≠ 0 ∧ 3 ≤ c.rounds)) ∧ ((7#32) ≠ 0 ∧ 3 ≤ c.rounds)
      ∧ ¬ (1 = 0 ∨ ((7#32) ≠ 0 ∧ 3 ≤ (checking 2 .r2400).rounds))
      ∧ (s.chan 1).deadline .tally = some 900 ∧ c.resends < 3 ∧ 3 ≤ ({ c with resends := 3 } : OutCall).resends)
    ∧ (let c : OutCall := { checking 1 .r9600 with phase := some .held, holdTotal := 60000 }
       let s := sending c [(.hold, 900), (.keepalive, 600)]
       s.outCall 1 = some c ∧ c.phase = some .held ∧ (s.chan 1).deadline .hold = some 900
        ∧ (s.chan 1).deadline .keepalive = some 600)
    ∧ (checking 1 .r9600).phase ≠ some .held := by decide

theorem witness_Retraining :
    (let c : OutCall := { checking 1 .r9600 with ceiling := some .r7200 }
     (sending c []).outCall 1 = some c ∧ ((sending c []).chan 1).state = .send ∧ c.ceiling = some .r7200
      ∧ c.phase = some .checking ∧ c.phase ≠ some .retraining)
    ∧ (let c : OutCall := { checking 4 .r9600 with phase := some .retraining, retrainCause := some .stepDown }
       c.phase = some .retraining ∧ c.phase ≠ some .checking ∧ c.retrainCause = some .stepDown)
    ∧ ({ checking 1 .r9600 with retrainCause := some .remote } : OutCall).retrainCause = some .remote
    ∧ (let c : InCall := { answered with ceiling := some .r7200 }
       (onAnswer .receive c []).inCall 1 = some c ∧ ((onAnswer .receive c []).chan 1).state = .receive
        ∧ c.ceiling = some .r7200 ∧ c.retraining = false)
    ∧ ({ answered with retraining := true } : InCall).retraining = true := by decide

/-- A callee in the phase given; in RECEIVING its page is page 3. -/
def callee (ph : CalleePhase) : InCall :=
  { answered with
    phase := some ph, tag := some [70#8], page := if ph = .receiving then some 3 else none }

theorem witness_CalleeReceives :
    (let c := callee .receiving
     let s := onAnswer .receive c [(.silence, 600)] [some ⟨8, 8⟩]
     s.inCall 1 = some c ∧ (s.chan 1).state = .receive ∧ c.phase = some .receiving)
    -- PAGE HEAD: a width at each end and out of range, the lowest unused id
    ∧ (let c := callee .awaitHead
       let s := onAnswer .receive c []
       c.phase = some .awaitHead ∧ (256 ≤ 2040 ∧ 2040 ≤ 2040 ∧ 2040 % 8 = 0) ∧ ¬ (2048 ≤ 2040)
        ∧ (¬ ∃ p ∈ s.store.pages, p.id = 0) ∧ (∀ k, k < 0 → ∃ p ∈ s.store.pages, p.id = k) ∧ c.tag = some [70#8])
    ∧ (callee .afterLast).phase = some .afterLast
    -- BLOCK: at a position held and at a free one, 257 and 256 bytes, no free block and some
    ∧ (let p := received [some ⟨8, 8⟩]
       let s := onAnswer .receive (callee .receiving) [] [some ⟨8, 8⟩]
       (callee .receiving).page = some p.id ∧ s.findPage p.id = some p
        ∧ p.pendingBurst.getD (0 : Fin 32).val none ≠ none ∧ p.pendingBurst.getD (31 : Fin 32).val none = none
        ∧ 256 < (List.replicate 257 0#8).length ∧ (List.replicate 256 0#8).length ≤ 256 ∧ s.store.freeList ≠ []
        ∧ (callee .awaitHead).phase ≠ some .receiving)
    -- CHECK: one resent for a complete burst; one with position 0 held, its set empty; one with position 1 missing
    ∧ (let c : InCall := { callee .receiving with burstDone := true, completedBit := some true }
       c.burstDone = true ∧ (∀ e ∈ (received []).pendingBurst, e = none) ∧ c.completedBit = some true)
    ∧ (let c := callee .receiving
       let p := received [some ⟨8, 8⟩]
       let s := onAnswer .receive c [(.silence, 600)] [some ⟨8, 8⟩]
       p.pendingBurst.length = 32 ∧ c.burstDone = false
        ∧ (∀ last : Fin 32, last = 0 ∨ last = 31 →
            let kept := p.pendingBurst.take (last.val + 1) ++ List.replicate (31 - last.val) none
            let gone := (p.pendingBurst.drop (last.val + 1)).filterMap id
            let u := (State.putPage s { p with pendingBurst := kept }).returnBlocks (gone.map (·.block))
            u.findPage p.id = some p ∧ u.inCall 1 = some c
              ∧ ∀ i : Fin 32, last.val < i.val → p.pendingBurst.getD i.val none = none)
        ∧ (∀ i : Fin 32, (0#32).getLsbD i.val = decide (i.val ≤ 0 ∧ p.pendingBurst.getD i.val none = none))
        ∧ (∀ i : Fin 32, (0xFFFFFFFE#32).getLsbD i.val
            = decide (i.val ≤ 31 ∧ p.pendingBurst.getD i.val none = none))) := by decide +kernel

theorem witness_CalleePageEnds :
    (let s := onAnswer .receive (callee .receiving) [] [some ⟨8, 8⟩]
     s.inCall 1 = some (callee .receiving) ∧ (s.chan 1).state = .receive
      ∧ s.findPage 3 = some (received [some ⟨8, 8⟩]) ∧ ∃ e ∈ (received [some ⟨8, 8⟩]).pendingBurst, e ≠ none)
    ∧ (∀ e ∈ (received []).pendingBurst, e = none)
    ∧ (callee .awaitHead).phase = some .awaitHead ∧ (callee .afterLast).phase = some .afterLast
    -- an open burst with its second position empty, and a full one
    ∧ (let p := received [some ⟨8, 8⟩, none, some ⟨9, 16⟩]
       p.pendingBurst = [⟨8, 8⟩].map some ++ ([none, some ⟨9, 16⟩] ++ List.replicate 29 none)
        ∧ ([none, some (⟨9, 16⟩ : ChainEntry)] ++ List.replicate 29 none).head? = some none)
    ∧ (received (List.replicate 32 (some ⟨8, 8⟩))).pendingBurst = (List.replicate 32 ⟨8, 8⟩).map some ++ [] := by decide

/-- A caller in ENDING after the page end given. -/
def ending (e : PageEndSent) (after : Option EndCause) : OutCall :=
  { greeted with
    phase := some .ending, pageEnd := some e, endAfter := after, rate := some .r7200, pageBit := true, anyPage := true }

theorem witness_CallerPageEnds :
    (let c := ending .last none
     let s := sending c [(.pageEndReply, 6000)]
     s.outCall 1 = some c ∧ (s.chan 1).state = .send ∧ c.phase = some .ending ∧ true = c.pageBit ∧ false ≠ c.pageBit
      ∧ s.findDest c.job c.dest = some (job, dest) ∧ (s.chan 1).recoder = some recoder ∧ c.pageEnd = some .last
      ∧ c.endAfter = none ∧ (s.chan 1).deadline .pageEndReply = some 6000 ∧ c.resends < 3
      ∧ 3 ≤ ({ c with resends := 3 } : OutCall).resends)
    ∧ (ending .last (some .accountHeld)).endAfter = some .accountHeld
    ∧ ((ending .more none).pageEnd = some .more ∧ (ending .more (some .cancelled)).endAfter = some .cancelled)
    -- no page after it in a job CLOSED and OPEN; a COMPLETE one and one in CODING after it
    ∧ (job.pages[dest.delivered + 1]? = none ∧ job.state ≠ .closed ∧ ({ job with state := .closed } : Job).state = .closed)
    ∧ (({ job with pages := [3, 4] } : Job).pages[dest.delivered + 1]? = some page4.id
      ∧ twoPages.findPage page4.id = some page4 ∧ page4.state = .complete ∧ codingPage.state ≠ .complete)
    ∧ ((sending { greeted with phase := some .pageWait } [(.pageWait, 900)]).chan 1).deadline .pageWait = some 900
    -- the look at the next page: the destination, a page at its place, an id no page has, and none
    ∧ ((sending { greeted with phase := some .pageWait } []).findDest 5 0 = some (job, dest)
      ∧ job.pages[dest.delivered]? = some 3 ∧ stocked.findPage 3 = some page ∧ page.state = .complete
      ∧ stocked.findPage 4 = none ∧ ({ job with pages := [] } : Job).pages[dest.delivered]? = none) := by
  decide

/-! ## Witnesses: received copy and the printer -/

/-- The printer with a queue, READY high. -/
def printer (st : PrintState) (q : List PrintEntry) : Printer :=
  { Printer.reset false true with state := st, queue := q }

theorem witness_ReceivedPageIsRouted :
    (received []).line = some 1 ∧ ready.settings.routing = .print
    ∧ ({ ready.settings with routing := .both } : Settings).routing = .both
    ∧ ({ ready.settings with routing := .forward } : Settings).routing = .forward
    ∧ 64 ≤ (List.replicate 64 (⟨3, none, 0⟩ : PrintEntry)).length
    ∧ (List.replicate 63 (⟨3, none, 0⟩ : PrintEntry)).length < 64 := by decide

theorem witness_PrintControl :
    (let s := printing (printer .idle [⟨3, none, 0⟩])
     s.printer.state = .idle
      ∧ (s.printer.queue ≠ [] ∧ s.printer.paused = false ∧ s.printer.paperOut = false) ∧ s.printer.readyPin = true
      ∧ s.printer.queue = ⟨3, none, 0⟩ :: [] ∧ (s.findPage 3).isSome = true
      ∧ s.printer.holdTimer = none ∧ s.printer.standbyTimer = none)
    ∧ ¬ ((printer .idle []).queue ≠ [])
    ∧ ([.idle, .waking, .standby, .faulted, .printing, .held] : List PrintState).all
        (fun x => (printing (printer x [⟨3, none, 255⟩])).printer.state == x) = true
    ∧ (Printer.reset true false).readyPin = false ∧ (printer .standby [⟨3, none, 0⟩]).readyPin = true
    ∧ ({ printer .faulted [] with paperOut := true } : Printer).paperOut = true
    ∧ Takes (withRecord stocked 0x60 []) .printPause (rec7 0x60 []) ∧ Takes (withRecord stocked 0x61 []) .printResume (rec7 0x61 [])
    ∧ (rec7 0x60 [0#8]).body ≠ []
    ∧ ({ printer .held [] with deferred := some .pageEnd } : Printer).deferred = some .pageEnd
    ∧ (printer .held []).deferred = none
    ∧ (printer .idle []).paperOut = false ∧ (printer .idle []).paperOut ≠ true
    ∧ ({ printer .held [⟨3, none, 0⟩] with holdTimer := some 30000 } : Printer).holdTimer = some 30000
    ∧ ({ printer .idle [] with standbyTimer := some 300000 } : Printer).standbyTimer = some 300000 :=
  ⟨by decide, by decide, by decide, rfl, rfl, rfl, takes_withRecord rfl (by decide) rfl, takes_withRecord rfl (by decide) rfl,
    by decide, rfl, rfl, rfl, by decide, rfl, rfl⟩

/-- The limit reached, at the last line below it and at 0 lines; the decoder at the start and at the end of the data. -/
theorem witness_LineAccepted :
    (let d : Decoder := ⟨3, 256, 0, [256], [256], 0, 0⟩
     let q : Printer := { printer .printing [⟨3, some 1, 255⟩] with
       decoder := some d, handed := some (.pageStart 256 .fine) }
     let s := printing q
     s.printer.queue = ⟨3, some 1, 255⟩ :: [] ∧ (s.findPage 3).isSome = true ∧ s.printer.decoder = some d
      ∧ (printer .printing []).handed = none
      ∧ (s.printer.handed = some (.pageStart 256 .fine) ∧ PrintItem.pageStart 256 .fine ≠ .pageEnd)
      ∧ (d.next (plainBits [256])).isSome = true
      ∧ ({ d with pos := 15 } : Decoder).next (plainBits [256]) = none
      ∧ s.printer.linesHanded < 1 ∧ 1 ≤ ({ q with linesHanded := 1 } : Printer).linesHanded
      ∧ ({ q with handed := some .pageEnd } : Printer).handed = some .pageEnd
      ∧ ({ page with line := some 2 } : Page).line = some 2
      ∧ s.settings.standbyDelay ≠ 0 ∧ ({ s.settings with standbyDelay := 0 } : Settings).standbyDelay = 0) := by decide

end Sys2Proof.Tests
end

section
/-! PROOFS. SpanLaws.lean: the span code: bits and the numbers they stand for, run lists and pixels, the reading of a
symbol and of a line's runs, and what the decoder finds at a line boundary. -/

namespace Sys2Proof.Machine

/-! ## Bits and numbers (R211) -/

@[simp] theorem natBits_length (w n : Nat) : (natBits w n).length = w := by simp [natBits]

/-- The lowest bit of a number comes last. -/
theorem natBits_succ (w n : Nat) : natBits (w + 1) n = natBits w (n / 2) ++ [n.testBit 0] := by
  have shift : ∀ i ∈ List.range w, n.testBit (w - i) = (n / 2).testBit (w - 1 - i) := by
    intro i hi
    have e : w - i = (w - 1 - i) + 1 := by have := List.mem_range.mp hi; omega
    rw [e, Nat.testBit_succ]
  simp only [natBits, List.range_succ, List.map_append, List.map_cons, List.map_nil, Nat.add_sub_cancel,
    Nat.sub_self, List.map_congr_left shift]

theorem bitsNat_concat (b : Bits) (x : Bool) : bitsNat (b ++ [x]) = 2 * bitsNat b + x.toNat := by
  simp [bitsNat]

theorem bitsNat_natBits (w : Nat) : ∀ n, n < 2 ^ w → bitsNat (natBits w n) = n := by
  induction w with
  | zero => intro n h; simp_all [natBits, bitsNat]
  | succ w ih =>
    intro n h
    rw [natBits_succ, bitsNat_concat, ih _ (by omega), Nat.testBit_zero]
    rcases Nat.mod_two_eq_zero_or_one n with e | e <;> simp [e] <;> omega

/-- Bits taken from the last one. -/
theorem bits_concat_induction {P : Bits → Prop} (nil : P []) (concat : ∀ b x, P b → P (b ++ [x])) (b : Bits) :
    P b := by
  have onReverse : ∀ c : Bits, P c.reverse := by
    intro c
    induction c with
    | nil => exact nil
    | cons x c ih => rw [List.reverse_cons]; exact concat _ x ih
  have h := onReverse b.reverse
  rwa [List.reverse_reverse] at h

theorem bitsNat_lt (b : Bits) : bitsNat b < 2 ^ b.length := by
  induction b using bits_concat_induction with
  | nil => decide
  | concat b x ih =>
    have := x.toNat_lt
    rw [bitsNat_concat, List.length_append, List.length_singleton, Nat.pow_succ]
    omega

theorem natBits_bitsNat (b : Bits) : natBits b.length (bitsNat b) = b := by
  induction b using bits_concat_induction with
  | nil => rfl
  | concat b x ih =>
    have half : (2 * bitsNat b + x.toNat) / 2 = bitsNat b := by have := x.toNat_lt; omega
    have low : (2 * bitsNat b + x.toNat).testBit 0 = x := by cases x <;> simp [Nat.testBit_zero]
    rw [bitsNat_concat, List.length_append, List.length_singleton, natBits_succ, half, low, ih]

/-! ## Runs and pixels (R22) -/

theorem run_le_sum {x : Nat} {runs : List Nat} (h : x ∈ runs) : x ≤ runs.sum := by
  induction runs with
  | nil => cases h
  | cons r rs ih =>
    rw [List.sum_cons]
    rcases List.mem_cons.mp h with rfl | tail
    · exact Nat.le_add_right _ _
    · exact Nat.le_trans (ih tail) (Nat.le_add_left _ _)

/-- The bound of R22 on a single run follows from the sum. -/
theorem validRuns_cons (w r : Nat) (rs : List Nat) :
    validRuns w (r :: rs) = true ↔ (∀ x ∈ rs, 1 ≤ x) ∧ r + rs.sum = w := by
  simp only [validRuns, Bool.and_eq_true, List.all_eq_true, decide_eq_true_eq, beq_iff_eq, List.sum_cons]
  constructor
  · rintro ⟨⟨pos, -⟩, sum⟩
    exact ⟨fun x hx => (pos x hx).1, sum⟩
  · rintro ⟨pos, sum⟩
    refine ⟨⟨fun x hx => ⟨pos x hx, ?_⟩, by omega⟩, sum⟩
    have := run_le_sum hx
    omega

theorem validRuns_sum {w : Nat} {runs : List Nat} (h : validRuns w runs = true) : runs.sum = w := by
  cases runs with
  | nil => cases h
  | cons r rs => exact ((validRuns_cons w r rs).mp h).2

theorem pixelsFrom_length (colour : Bool) (rs : List Nat) : (pixelsFrom colour rs).length = rs.sum := by
  induction rs generalizing colour with
  | nil => rfl
  | cons r rs ih => simp [pixelsFrom, ih]

@[simp] theorem runsToPixels_length (rs : List Nat) : (runsToPixels rs).length = rs.sum :=
  pixelsFrom_length false rs

theorem runsFrom_replicate_append (colour : Bool) (ps : List Bool) (k : Nat) :
    ∀ n, runsFrom colour n (List.replicate k colour ++ ps) = runsFrom colour (n + k) ps := by
  induction k with
  | zero => intro n; simp
  | succ k ih => intro n; simp [List.replicate_succ, runsFrom, ih, Nat.add_assoc, Nat.add_comm 1 k]

/-- Runs drawn as pixels are counted again. -/
theorem runsFrom_pixelsFrom (rs : List Nat) :
    ∀ (colour : Bool) (n : Nat), (∀ x ∈ rs, 1 ≤ x) →
      runsFrom colour n (pixelsFrom (!colour) rs) = n :: rs := by
  induction rs with
  | nil => intro colour n _; rfl
  | cons r rs ih =>
    intro colour n pos
    obtain ⟨k, rfl⟩ : ∃ k, r = k + 1 := ⟨r - 1, by have := pos r (by simp); omega⟩
    have tail := ih (!colour) (1 + k) (fun x hx => pos x (by simp [hx]))
    simp [pixelsFrom, List.replicate_succ, runsFrom, runsFrom_replicate_append, Bool.not_not] at tail ⊢
    rw [tail, Nat.add_comm]

/-- A valid run list is the run list of its pixels. -/
theorem pixelsToRuns_runsToPixels {w : Nat} {runs : List Nat} (h : validRuns w runs = true) :
    pixelsToRuns (runsToPixels runs) = runs := by
  cases runs with
  | nil => cases h
  | cons r rs =>
    have pos := ((validRuns_cons w r rs).mp h).1
    simp only [pixelsToRuns, runsToPixels, pixelsFrom, runsFrom_replicate_append, Nat.zero_add]
    exact runsFrom_pixelsFrom rs false r pos

theorem pixelsFrom_runsFrom (ps : List Bool) :
    ∀ (colour : Bool) (n : Nat), pixelsFrom colour (runsFrom colour n ps) = List.replicate n colour ++ ps := by
  induction ps with
  | nil => intro colour n; simp [runsFrom, pixelsFrom]
  | cons p ps ih =>
    intro colour n
    by_cases h : p = colour
    · subst h
      simp [runsFrom, ih, List.replicate_succ']
    · have other : (!colour) = p := by cases p <;> cases colour <;> simp_all
      simp [runsFrom, h, pixelsFrom, other, ih]

@[simp] theorem runsToPixels_pixelsToRuns (ps : List Bool) : runsToPixels (pixelsToRuns ps) = ps := by
  simp [runsToPixels, pixelsToRuns, pixelsFrom_runsFrom]

/-- Only the first run counted can be 0. -/
theorem runsFrom_eq_cons (ps : List Bool) :
    ∀ (colour : Bool) (n : Nat), ∃ r rs, runsFrom colour n ps = r :: rs ∧ n ≤ r ∧ ∀ x ∈ rs, 1 ≤ x := by
  induction ps with
  | nil => intro colour n; exact ⟨n, [], rfl, Nat.le_refl n, by simp⟩
  | cons p ps ih =>
    intro colour n
    by_cases h : p = colour
    · obtain ⟨r, rs, e, le, pos⟩ := ih colour (n + 1)
      exact ⟨r, rs, by rw [runsFrom, if_pos h, e], by omega, pos⟩
    · obtain ⟨r, rs, e, le, pos⟩ := ih p 1
      exact ⟨n, r :: rs, by rw [runsFrom, if_neg h, e], Nat.le_refl n, by simpa using ⟨le, pos⟩⟩

theorem validRuns_pixelsToRuns (ps : List Bool) : validRuns ps.length (pixelsToRuns ps) = true := by
  obtain ⟨r, rs, e, -, pos⟩ := runsFrom_eq_cons ps false 0
  have sum : (pixelsToRuns ps).sum = ps.length := by
    rw [← runsToPixels_length, runsToPixels_pixelsToRuns]
  rw [pixelsToRuns, e] at sum ⊢
  exact (validRuns_cons _ _ _).mpr ⟨pos, by simpa using sum⟩

theorem zipWith_xor_cancel (a b : List Bool) (h : a.length = b.length) :
    List.zipWith xor (List.zipWith xor a b) b = a := by
  apply List.ext_getElem
  · simp [h]
  · intro i _ _; simp

theorem validRuns_deltaLine {w : Nat} {line ref : List Nat} (hl : validRuns w line = true)
    (hr : validRuns w ref = true) : validRuns w (deltaLine line ref) = true := by
  have h := validRuns_pixelsToRuns (List.zipWith xor (runsToPixels line) (runsToPixels ref))
  simpa only [deltaLine, List.length_zipWith, runsToPixels_length, validRuns_sum hl, validRuns_sum hr,
    Nat.min_self] using h

/-- R24: the delta of the delta line is the line. -/
theorem deltaLine_deltaLine {w : Nat} {line ref : List Nat} (hl : validRuns w line = true)
    (hr : validRuns w ref = true) : deltaLine (deltaLine line ref) ref = line := by
  have same : (runsToPixels line).length = (runsToPixels ref).length := by
    simp [validRuns_sum hl, validRuns_sum hr]
  rw [deltaLine, deltaLine, runsToPixels_pixelsToRuns, zipWith_xor_cancel _ _ same,
    pixelsToRuns_runsToPixels hl]

theorem mergeFrom_positive (rs : List Nat) : ∀ cur, (∀ x ∈ rs, 1 ≤ x) → mergeFrom cur rs = cur :: rs := by
  induction rs with
  | nil => intro cur _; rfl
  | cons r rs ih =>
    intro cur pos
    obtain ⟨k, rfl⟩ : ∃ k, r = k + 1 := ⟨r - 1, by have := pos r (by simp); omega⟩
    rw [mergeFrom, ih _ (fun x hx => pos x (by simp [hx]))]

theorem mergeZeros_valid {w : Nat} {runs : List Nat} (h : validRuns w runs = true) : mergeZeros runs = runs := by
  cases runs with
  | nil => cases h
  | cons r rs => exact mergeFrom_positive rs r ((validRuns_cons w r rs).mp h).1

/-! ## One run symbol (R25) -/

theorem readRun_runSymbol (l : Nat) (rest : Bits) (h : l ≤ 2040) :
    readRun (runSymbol l ++ rest) = .run l rest := by
  unfold runSymbol
  split
  · have value : bitsNat (natBits 3 l) = l := bitsNat_natBits 3 l (by omega)
    exact congrArg (RunRead.run · rest) value
  split
  · have value : bitsNat (natBits 6 (l - 8)) = l - 8 := bitsNat_natBits 6 _ (by omega)
    have sum : bitsNat (natBits 6 (l - 8)) + 8 = l := by omega
    exact congrArg (RunRead.run · rest) sum
  · have value : bitsNat (natBits 11 l) = l := bitsNat_natBits 11 l (by omega)
    change (if 72 ≤ bitsNat (natBits 11 l) && bitsNat (natBits 11 l) ≤ 2040 then
      RunRead.run (bitsNat (natBits 11 l)) rest else .reserved rest) = _
    rw [value, if_pos (by simp; omega)]

theorem readRun_reserved (v : Nat) (rest : Bits) (h : v < 72 ∨ (2041 ≤ v ∧ v ≤ 2047)) :
    readRun ([true, true] ++ natBits 11 v ++ rest) = .reserved rest := by
  have value : bitsNat (natBits 11 v) = v := bitsNat_natBits 11 v (by omega)
  change (if 72 ≤ bitsNat (natBits 11 v) && bitsNat (natBits 11 v) ≤ 2040 then
    RunRead.run (bitsNat (natBits 11 v)) rest else .reserved rest) = _
  rw [value, if_neg (by simp; omega)]

/-- Too few bits after the mark of a short, a medium or a long run. -/
theorem readRun_short :
    readRun [] = .short ∧ readRun [true] = .short
    ∧ (∀ b : Bits, b.length < 3 → readRun (false :: b) = .short)
    ∧ (∀ b : Bits, b.length < 6 → readRun (true :: false :: b) = .short)
    ∧ (∀ b : Bits, b.length < 11 → readRun (true :: true :: b) = .short) := by
  refine ⟨rfl, rfl, ?_, ?_, ?_⟩
  all_goals
    intro b hb
    unfold readRun
    split
    case h_4 => rfl
    all_goals
      rename_i heq
      cases heq <;> simp only [List.length_cons] at hb <;> omega

/-- A symbol read leaves fewer bits. -/
theorem readRun_rest_length (bits : Bits) :
    (∀ l rest, readRun bits = .run l rest → rest.length < bits.length)
    ∧ (∀ rest, readRun bits = .reserved rest → rest.length < bits.length) := by
  unfold readRun
  split
  case h_3 => dsimp only; split <;> simp +contextual <;> omega
  all_goals simp +contextual <;> omega

/-- The three symbols: a mark and the bits of a number. -/
theorem runSymbol_forms (l : Nat) :
    ∃ b : Bits, (runSymbol l = false :: b ∧ b.length = 3) ∨ (runSymbol l = true :: false :: b ∧ b.length = 6)
      ∨ (runSymbol l = true :: true :: b ∧ b.length = 11) := by
  unfold runSymbol
  split
  · exact ⟨_, .inl ⟨rfl, natBits_length 3 l⟩⟩
  split
  · exact ⟨_, .inr (.inl ⟨rfl, natBits_length 6 (l - 8)⟩)⟩
  · exact ⟨_, .inr (.inr ⟨rfl, natBits_length 11 l⟩)⟩

theorem one_le_runSymbol_length (l : Nat) : 1 ≤ (runSymbol l).length := by
  obtain ⟨b, ⟨e, -⟩ | ⟨e, -⟩ | ⟨e, -⟩⟩ := runSymbol_forms l <;> simp [e]

/-- Where a run symbol breaks off, none is read. -/
theorem readRun_cut (n : Nat) (cut : Bits) (h : cut <+: runSymbol n) (ne : cut ≠ runSymbol n) :
    readRun cut = .short := by
  obtain ⟨nil, one, short, medium, long⟩ := readRun_short
  have len : cut.length < (runSymbol n).length :=
    Nat.lt_of_le_of_ne h.length_le (fun e => ne (h.eq_of_length e))
  obtain ⟨b, ⟨form, size⟩ | ⟨form, size⟩ | ⟨form, size⟩⟩ := runSymbol_forms n <;>
    rw [form] at h len
  · match cut with
    | [] => exact nil
    | x :: cut =>
      obtain ⟨rfl, -⟩ := List.cons_prefix_cons.mp h
      exact short cut (by simp only [List.length_cons] at len; omega)
  · match cut with
    | [] => exact nil
    | [x] => obtain ⟨rfl, -⟩ := List.cons_prefix_cons.mp h; exact one
    | x :: y :: cut =>
      obtain ⟨rfl, tail⟩ := List.cons_prefix_cons.mp h
      obtain ⟨rfl, -⟩ := List.cons_prefix_cons.mp tail
      exact medium cut (by simp only [List.length_cons] at len; omega)
  · match cut with
    | [] => exact nil
    | [x] => obtain ⟨rfl, -⟩ := List.cons_prefix_cons.mp h; exact one
    | x :: y :: cut =>
      obtain ⟨rfl, tail⟩ := List.cons_prefix_cons.mp h
      obtain ⟨rfl, -⟩ := List.cons_prefix_cons.mp tail
      exact long cut (by simp only [List.length_cons] at len; omega)

/-! ## The runs of a line (R36, R37) -/

/-- Runs are read one after another as long as the width is not reached before the last of them. -/
theorem readRuns_symbols (w fuel : Nat) (bits : Bits) (runs : List Nat) (small : ∀ x ∈ runs, x ≤ 2040) :
    ∀ (sum : Nat) (acc : List Nat), (∀ pre l post, runs = pre ++ l :: post → sum + pre.sum < w) →
      sum + runs.sum ≤ w →
      readRuns w (runs.length + fuel) (runs.flatMap runSymbol ++ bits) sum acc
        = readRuns w fuel bits (sum + runs.sum) (acc ++ runs) := by
  induction runs with
  | nil => intro sum acc _ _; simp
  | cons r rs ih =>
    intro sum acc before fits
    have below : sum < w := before [] r rs rfl
    rw [List.sum_cons] at fits
    have tail := ih (fun x hx => small x (by simp [hx])) (sum + r) (acc ++ [r])
      (fun pre l post e => by have := before (r :: pre) l post (by rw [e]; rfl); simp at this; omega) (by omega)
    rw [List.length_cons, Nat.add_right_comm, readRuns, if_neg (by omega), List.flatMap_cons, List.append_assoc,
      readRun_runSymbol r _ (small r (by simp))]
    simp only
    rw [if_neg (by omega), tail]
    simp [Nat.add_assoc]

theorem length_le_symbols (runs : List Nat) (bits : Bits) :
    runs.length + bits.length ≤ (runs.flatMap runSymbol ++ bits).length := by
  induction runs with
  | nil => simp
  | cons r rs ih =>
    have := one_le_runSymbol_length r
    simp only [List.flatMap_cons, List.length_append, List.length_cons] at ih ⊢
    omega

/-- The runs of a line begun, its symbols' fuel spent: what is left to read has fuel of its own. -/
theorem readRuns_from_start (w : Nat) (runs : List Nat) (bits : Bits) (hw : w ≤ 2040)
    (before : ∀ pre l post, runs = pre ++ l :: post → pre.sum < w) (fits : runs.sum ≤ w) :
    ∃ fuel, readRuns w ((runs.flatMap runSymbol ++ bits).length + 2) (runs.flatMap runSymbol ++ bits) 0 []
      = readRuns w (fuel + 1) bits runs.sum runs := by
  have long := length_le_symbols runs bits
  obtain ⟨fuel, e⟩ : ∃ fuel, (runs.flatMap runSymbol ++ bits).length + 2 = runs.length + (fuel + 1) :=
    ⟨(runs.flatMap runSymbol ++ bits).length + 1 - runs.length, by omega⟩
  have small : ∀ x ∈ runs, x ≤ 2040 := fun x hx => by have := run_le_sum hx; omega
  refine ⟨fuel, ?_⟩
  rw [e, readRuns_symbols w _ bits runs small 0 [] (by simpa using before) (by simpa using fits)]
  simp

/-- A valid line is read back, whatever follows it. -/
theorem readRuns_valid (w : Nat) (runs : List Nat) (after : Bits) (h1 : 1 ≤ w) (hw : w ≤ 2040)
    (valid : validRuns w runs = true) :
    readRuns w ((runs.flatMap runSymbol ++ after).length + 2) (runs.flatMap runSymbol ++ after) 0 []
      = .good runs after := by
  have sum := validRuns_sum valid
  have before : ∀ pre l post, runs = pre ++ l :: post → pre.sum < w := by
    rintro (_ | ⟨r, pre⟩) l post rfl
    · exact h1
    · have pos := ((validRuns_cons _ _ _).mp valid).1 l (by simp)
      simp at sum ⊢
      omega
  obtain ⟨fuel, e⟩ := readRuns_from_start w runs after hw before (by omega)
  have ne : runs ≠ [] := by rintro rfl; cases valid
  rw [e, readRuns, if_pos ⟨sum, ne⟩]

/-- What stops the reading of a line before its width is reached. -/
theorem readRuns_stops (w fuel sum : Nat) (bits : Bits) (acc : List Nat) (below : sum < w) :
    (readRun bits = .short → readRuns w (fuel + 1) bits sum acc = .bad [])
    ∧ (∀ rest, readRun bits = .reserved rest → readRuns w (fuel + 1) bits sum acc = .bad rest)
    ∧ (∀ n rest, readRun bits = .run n rest → w < sum + n →
        readRuns w (fuel + 1) bits sum acc = .bad rest) := by
  have go : ¬ (sum = w ∧ acc ≠ []) := by omega
  refine ⟨fun h => ?_, fun rest h => ?_, fun n rest h past => ?_⟩
  · rw [readRuns, if_neg go, h]
  · rw [readRuns, if_neg go, h]
  · rw [readRuns, if_neg go, h]
    exact if_pos past

/-- Reading goes on after what was read. -/
theorem readRuns_rest_length (w fuel : Nat) :
    ∀ (bits : Bits) (sum : Nat) (acc : List Nat),
      (∀ runs rest, readRuns w fuel bits sum acc = .good runs rest → rest.length ≤ bits.length)
      ∧ (∀ rest, readRuns w fuel bits sum acc = .bad rest → rest.length ≤ bits.length) := by
  induction fuel with
  | zero => intro bits sum acc; simp +contextual [readRuns]
  | succ fuel ih =>
    intro bits sum acc
    obtain ⟨run, reserved⟩ := readRun_rest_length bits
    rw [readRuns]
    split
    · simp +contextual
    · split
      case h_1 => simp +contextual
      case h_2 rest h => simpa using Nat.le_of_lt (reserved rest h)
      case h_3 l rest h =>
        have less := run l rest h
        obtain ⟨good, bad⟩ := ih rest (sum + l) (acc ++ [l])
        split
        · simpa using Nat.le_of_lt less
        · exact ⟨fun runs rest' e => Nat.le_trans (good runs rest' e) (Nat.le_of_lt less),
            fun rest' e => Nat.le_trans (bad rest' e) (Nat.le_of_lt less)⟩

/-! ## A line at a line boundary (R34 to R39) -/

/-- The bits of a coded line are those before what remains. -/
theorem take_consumed (line rest : Bits) :
    (line ++ rest).take ((line ++ rest).length - rest.length) = line := by simp

section
variable (w : Nat) (ref lastGood : List Nat)

theorem decodeBits_ends (b : Bool) :
    decodeBits w ref lastGood [] = none ∧ decodeBits w ref lastGood [b] = none := by
  cases b <;> exact ⟨rfl, rfl⟩

theorem decodeBits_fill (after : Bits) :
    decodeBits w ref lastGood (true :: true :: after) = decodeBits w ref lastGood after := rfl

theorem decodeBits_same (after : Bits) :
    decodeBits w ref lastGood (false :: false :: after) = some ⟨ref, false, [false, false], after⟩ := rfl

/-- A valid line coded PLAIN is decoded, and its bits handed on as read. -/
theorem decodeBits_plainBits (line : List Nat) (after : Bits) (h1 : 1 ≤ w) (hw : w ≤ 2040)
    (valid : validRuns w line = true) :
    decodeBits w ref lastGood (plainBits line ++ after) = some ⟨line, false, plainBits line, after⟩ := by
  have read := readRuns_valid w line after h1 hw valid
  simp only [plainBits, markPlain, List.cons_append, List.nil_append, decodeBits, read,
    mergeZeros_valid valid, take_consumed]

/-- A valid line coded DELTA is decoded against the same reference. -/
theorem decodeBits_deltaBits (line : List Nat) (after : Bits) (h1 : 1 ≤ w) (hw : w ≤ 2040)
    (valid : validRuns w line = true) (validRef : validRuns w ref = true) :
    decodeBits w ref lastGood (deltaBits (deltaLine line ref) ++ after)
      = some ⟨line, false, deltaBits (deltaLine line ref), after⟩ := by
  have validDelta := validRuns_deltaLine valid validRef
  have read := readRuns_valid w (deltaLine line ref) after h1 hw validDelta
  simp only [deltaBits, markDelta, List.cons_append, List.nil_append, decodeBits, read,
    mergeZeros_valid validDelta, deltaLine_deltaLine valid validRef, take_consumed]

/-- A PLAIN or DELTA line whose runs are bad is concealed. -/
theorem decodeBits_of_bad (mark bits rest : Bits) (hm : mark = [false, true] ∨ mark = [true, false])
    (bad : readRuns w (bits.length + 2) bits 0 [] = .bad rest) :
    decodeBits w ref lastGood (mark ++ bits) = some ⟨lastGood, true, [], rest⟩ := by
  rcases hm with rfl | rfl <;> simp only [List.cons_append, List.nil_append, decodeBits, bad]

/-- A line decoded: bits were consumed, and where it is concealed the last good line stands in its place. -/
theorem decodeBits_some (bits : Bits) (l : DecodedLine) (h : decodeBits w ref lastGood bits = some l) :
    l.rest.length < bits.length ∧ (l.concealed = true → l.runs = lastGood) := by
  fun_induction decodeBits w ref lastGood bits with
  | case1 rest ih =>
    obtain ⟨less, last⟩ := ih h
    exact ⟨by simp only [List.length_cons]; omega, last⟩
  | case2 rest =>
    cases h
    simp only [List.length_cons]
    exact ⟨by omega, nofun⟩
  | case3 rest runs rest' read =>
    have := (readRuns_rest_length _ _ _ _ _).1 _ _ read
    cases h
    simp only [List.length_cons]
    exact ⟨by omega, nofun⟩
  | case4 rest rest' read =>
    have := (readRuns_rest_length _ _ _ _ _).2 _ read
    cases h
    simp only [List.length_cons]
    exact ⟨by omega, fun _ => trivial⟩
  | case5 rest runs rest' read =>
    have := (readRuns_rest_length _ _ _ _ _).1 _ _ read
    cases h
    simp only [List.length_cons]
    exact ⟨by omega, nofun⟩
  | case6 rest rest' read =>
    have := (readRuns_rest_length _ _ _ _ _).2 _ read
    cases h
    simp only [List.length_cons]
    exact ⟨by omega, fun _ => trivial⟩
  | case7 => cases h

end

theorem Decoder.next_eq_none {d : Decoder} {data : Bits}
    (h : decodeBits d.width d.ref d.lastGood (data.drop d.pos) = none) : d.next data = none := by
  rw [Decoder.next, h]

theorem Decoder.next_eq_some {d : Decoder} {data : Bits} {l : DecodedLine}
    (h : decodeBits d.width d.ref d.lastGood (data.drop d.pos) = some l) :
    d.next data = some (l, d.after data l) := by
  rw [Decoder.next, h]

/-- The context after a line, the last good line replaced by a good line only. -/
theorem Decoder.after_eq {d : Decoder} {data : Bits} {l : DecodedLine}
    (h : decodeBits d.width d.ref d.lastGood (data.drop d.pos) = some l) :
    d.after data l = { d with
      pos := data.length - l.rest.length, ref := l.runs
      lastGood := if l.concealed then d.lastGood else l.runs
      produced := min 65535 (d.produced + 1)
      concealed := min 65535 (d.concealed + (if l.concealed then 1 else 0)) } := by
  have last := (decodeBits_some _ _ _ _ l h).2
  unfold Decoder.after satAdd Config.maxCount16
  split
  · rw [last ‹_›]
  · rfl

/-! ## The encoder's choice (R28 to R30) -/

theorem encodeLine_next (form : Form) (e : Encoder) (line : List Nat) :
    (encodeLine form e line).2.ref = line ∧ (encodeLine form e line).2.first = false := ⟨rfl, rfl⟩

/-- The coded line of a form chosen, and the refresh distance after it. -/
theorem encodeLine_of_chooseForm {form : Form} {e : Encoder} {line : List Nat} {f : LineForm}
    (h : chooseForm form e line = f) :
    (encodeLine form e line).1 = codedLine f e.ref line
      ∧ (encodeLine form e line).2.dist = if f = .plain then 0 else e.dist + 1 := by
  subst h; exact ⟨rfl, rfl⟩

theorem chooseForm_forced (form : Form) (e : Encoder) (line : List Nat)
    (h : form = .plainOnly ∨ e.first = true ∨ e.k ≤ e.dist + 1) : chooseForm form e line = .plain := by
  cases form with
  | plainOnly => rfl
  | plainDelta => rw [chooseForm, if_pos (by simpa using h)]

/-- R28, R29: the choice where no rule forces PLAIN. -/
theorem chooseForm_free (e : Encoder) (line : List Nat) (hf : e.first = false) (hk : e.dist + 1 < e.k) :
    chooseForm .plainDelta e line =
      if line = e.ref then .same
      else if (deltaBits (deltaLine line e.ref)).length < (plainBits line).length then .delta
      else .plain := by
  rw [chooseForm, if_neg (by simpa [hf] using hk)]

theorem eq_ref_of_chooseForm_same {form : Form} {e : Encoder} {line : List Nat}
    (h : chooseForm form e line = .same) : line = e.ref := by
  cases form with
  | plainOnly => cases h
  | plainDelta => unfold chooseForm at h; grind

/-- What an encoder codes, a decoder with the same reference reads back, whatever follows it. -/
theorem decodeBits_encodeLine (form : Form) (e : Encoder) (w : Nat) (line lastGood : List Nat) (after : Bits)
    (h1 : 1 ≤ w) (hw : w ≤ 2040) (valid : validRuns w line = true) (validRef : validRuns w e.ref = true) :
    decodeBits w e.ref lastGood ((encodeLine form e line).1 ++ after)
      = some ⟨line, false, (encodeLine form e line).1, after⟩ := by
  cases h : chooseForm form e line with
  | plain =>
    rw [(encodeLine_of_chooseForm h).1]
    exact decodeBits_plainBits w e.ref lastGood line after h1 hw valid
  | same =>
    rw [(encodeLine_of_chooseForm h).1, eq_ref_of_chooseForm_same h]
    exact decodeBits_same w e.ref lastGood after
  | delta =>
    rw [(encodeLine_of_chooseForm h).1]
    exact decodeBits_deltaBits w e.ref lastGood line after h1 hw valid validRef

/-- A line begun well and stopped before its width is concealed. -/
theorem decodeBits_stopped (w : Nat) (ref lastGood runs : List Nat) (mark bits rest : Bits)
    (hm : mark = [false, true] ∨ mark = [true, false]) (below : runs.sum < w) (hw : w ≤ 2040)
    (stops : ∀ fuel, readRuns w (fuel + 1) bits runs.sum runs = .bad rest) :
    decodeBits w ref lastGood (mark ++ runs.flatMap runSymbol ++ bits) = some ⟨lastGood, true, [], rest⟩ := by
  have before : ∀ pre l post, runs = pre ++ l :: post → pre.sum < w := by
    rintro pre l post rfl
    rw [List.sum_append] at below
    omega
  obtain ⟨fuel, e⟩ := readRuns_from_start w runs bits hw before (Nat.le_of_lt below)
  rw [List.append_assoc]
  exact decodeBits_of_bad w ref lastGood mark _ rest hm (e.trans (stops fuel))

end Sys2Proof.Machine
end

section
/-! PROOFS. DecodeOfEncode.lean: the statement about the span code's encoder and decoder. -/

namespace Sys2Proof.Proofs
open Sys2Proof.Machine

/-- Settles O36: reading undoes coding symbol by symbol (`readRuns_symbols`), the delta line undoes itself, and a line
stopped before its width is concealed (`decodeBits_stopped`). -/
theorem decodeOfEncode : Obligations.DecodeOfEncode := by
  refine ⟨?coded, ?boundary, ?context⟩
  case coded =>
    intro form e w line lastGood after h1 hw valid validRef
    obtain ⟨ref, first⟩ := encodeLine_next form e line
    refine ⟨decodeBits_encodeLine form e w line lastGood after h1 hw valid validRef, ref, first, ?forced, ?free⟩
    case forced =>
      intro h
      obtain ⟨code, dist⟩ := encodeLine_of_chooseForm (chooseForm_forced form e line h)
      exact ⟨by rw [code]; rfl, dist⟩
    case free =>
      rintro rfl hf hk
      have choice := chooseForm_free e line hf hk
      refine ⟨fun same => ?_, fun other => ⟨fun shorter => ?_, fun longer => ?_⟩⟩
      · exact encodeLine_of_chooseForm (f := .same) (by rw [choice, if_pos same])
      · exact encodeLine_of_chooseForm (f := .delta) (by rw [choice, if_neg other, if_pos shorter])
      · exact encodeLine_of_chooseForm (f := .plain) (by rw [choice, if_neg other, if_neg (Nat.not_lt_of_le longer)])
  case boundary =>
    intro w ref lastGood after
    refine ⟨decodeBits_ends w ref lastGood, decodeBits_fill w ref lastGood after,
      decodeBits_same w ref lastGood after, ?_⟩
    intro mark runs hm below hw
    refine ⟨fun n hn past => ?_, fun v hv => ?_, fun n cut _ hcut ne => ?_⟩
    · exact decodeBits_stopped w ref lastGood runs mark _ after hm below hw fun fuel =>
        (readRuns_stops w fuel _ _ runs below).2.2 n after (readRun_runSymbol n after hn) past
    · exact decodeBits_stopped w ref lastGood runs mark _ after hm below hw fun fuel =>
        (readRuns_stops w fuel _ _ runs below).2.1 after (readRun_reserved v after hv)
    · exact decodeBits_stopped w ref lastGood runs mark cut [] hm below hw fun fuel =>
        (readRuns_stops w fuel _ _ runs below).1 (readRun_cut n cut hcut ne)
  case context =>
    intro d data
    refine ⟨Decoder.next_eq_none, fun l h => ?_⟩
    rw [Decoder.next_eq_some h, Decoder.after_eq h]

end Sys2Proof.Proofs
end

section
/-! PROOFS. RecoderLaws.lean: what the Recoder hands on (R41, R42, R137), the fill of a line (R138), and the stream of a
burst and its blocks (R139). -/

namespace Sys2Proof.Machine

/-! ## Transforms (R137) -/

theorem cutRuns_sum (rs : List Nat) : ∀ w, w ≤ rs.sum → (cutRuns w rs).sum = w := by
  induction rs with
  | nil => intro w h; exact (Nat.le_zero.mp h).symm
  | cons r rs ih =>
    intro w h
    rw [List.sum_cons] at h
    rw [cutRuns]
    split
    · simp
    · rw [List.sum_cons, ih (w - r) (by omega)]; omega

theorem cutRuns_positive (rs : List Nat) :
    ∀ w, 1 ≤ w → (∀ x ∈ rs, 1 ≤ x) → ∀ x ∈ cutRuns w rs, 1 ≤ x := by
  induction rs with
  | nil => intro w _ _ x hx; cases hx
  | cons r rs ih =>
    intro w h1 pos
    rw [cutRuns]
    split
    · simpa using h1
    · have tail := ih (w - r) (by omega) (fun x hx => pos x (by simp [hx]))
      simpa using ⟨pos r (by simp), tail⟩

/-- Cutting a valid line at a lesser width leaves a valid line. -/
theorem validRuns_cutRuns {w full : Nat} {runs : List Nat} (le : w ≤ full)
    (valid : validRuns full runs = true) : validRuns w (cutRuns w runs) = true := by
  have sum := cutRuns_sum runs w (by rw [validRuns_sum valid]; exact le)
  cases runs with
  | nil => cases valid
  | cons r rs =>
    have pos := ((validRuns_cons _ _ _).mp valid).1
    rw [cutRuns] at sum ⊢
    split
    · rw [validRuns_cons]; simp
    · rw [if_neg ‹_›] at sum
      exact (validRuns_cons _ _ _).mpr ⟨cutRuns_positive rs _ (by omega) pos, by simpa using sum⟩

theorem pixelsFrom_cutRuns (rs : List Nat) :
    ∀ (w : Nat) (colour : Bool), pixelsFrom colour (cutRuns w rs) = (pixelsFrom colour rs).take w := by
  induction rs with
  | nil => intro w colour; simp [cutRuns, pixelsFrom]
  | cons r rs ih =>
    intro w colour
    rw [cutRuns, pixelsFrom, List.take_append, List.take_replicate, List.length_replicate]
    split
    · simp [pixelsFrom, Nat.min_eq_left ‹w ≤ r›, Nat.sub_eq_zero_of_le ‹w ≤ r›]
    · rw [pixelsFrom, ih, Nat.min_eq_right (by omega)]

theorem runsToPixels_cutRuns (w : Nat) (runs : List Nat) :
    runsToPixels (cutRuns w runs) = (runsToPixels runs).take w := pixelsFrom_cutRuns runs w false

/-- A valid line is known by its pixels. -/
theorem eq_of_runsToPixels {w v : Nat} {a b : List Nat} (ha : validRuns w a = true) (hb : validRuns v b = true)
    (h : runsToPixels a = runsToPixels b) : a = b := by
  rw [← pixelsToRuns_runsToPixels ha, ← pixelsToRuns_runsToPixels hb, h]

/-- The line that shows the first `w` pixels of a line is the line cut at `w`. -/
theorem eq_cutRuns_of_shows {w full : Nat} {line runs : List Nat} (le : w ≤ full)
    (valid : validRuns full line = true) (validShown : validRuns w runs = true)
    (shown : runsToPixels runs = (runsToPixels line).take w) : cutRuns w line = runs :=
  eq_of_runsToPixels (validRuns_cutRuns le valid) validShown
    ((runsToPixels_cutRuns w line).trans shown.symm)

/-- The line that shows a pair of lines cut at `w` is the pair merged. -/
theorem eq_mergeLines_of_shows {w : Nat} {a b runs : List Nat} (validShown : validRuns w runs = true)
    (shown : runsToPixels runs
      = List.zipWith (· || ·) ((runsToPixels a).take w) ((runsToPixels b).take w)) :
    mergeLines (cutRuns w a) (cutRuns w b) = runs := by
  rw [mergeLines, runsToPixels_cutRuns, runsToPixels_cutRuns, ← shown, pixelsToRuns_runsToPixels validShown]

/-! ## The next line (R41, R42) -/

section
variable {r : Recoder} {data : Bits}

theorem Recoder.mode_eq (r : Recoder) : r.mode = .copy ∨ r.mode = .recode := by cases r.mode <;> simp

theorem Recoder.nextLine_of_copy (hm : r.mode = .copy) : r.nextLine data = r.copyLine data := by
  rw [Recoder.nextLine, hm]

theorem Recoder.nextLine_of_recode (hm : r.mode = .recode) : r.nextLine data = r.recodeLine data := by
  rw [Recoder.nextLine, hm]

theorem Recoder.nextLine_eq_none (h : r.dec.next data = none) : r.nextLine data = none := by
  unfold Recoder.nextLine
  split
  · rw [Recoder.copyLine, h]
  · rw [Recoder.recodeLine, h]

theorem Recoder.nextLine_copy {l : DecodedLine} {d : Decoder} (hm : r.mode = .copy)
    (h : r.dec.next data = some (l, d)) :
    r.nextLine data = some (if l.concealed then plainBits l.runs else l.raw, { r with dec := d }) := by
  rw [Recoder.nextLine_of_copy hm, Recoder.copyLine, h]

/-- A line alone, because lines are not merged or because it is the last of an odd number. -/
theorem Recoder.nextLine_recode_single {l : DecodedLine} {d : Decoder} (hm : r.mode = .recode)
    (h : r.dec.next data = some (l, d)) (alone : r.merge = false ∨ d.next data = none) :
    r.nextLine data = some ((encodeLine r.form r.enc (cutRuns r.cropTo l.runs)).1,
      { r with dec := d, enc := (encodeLine r.form r.enc (cutRuns r.cropTo l.runs)).2 }) := by
  rw [Recoder.nextLine_of_recode hm, Recoder.recodeLine, h]
  rcases alone with e | e <;> simp [e]

theorem Recoder.nextLine_recode_pair {l l2 : DecodedLine} {d d2 : Decoder} (hm : r.mode = .recode)
    (h : r.dec.next data = some (l, d)) (merge : r.merge = true) (h2 : d.next data = some (l2, d2)) :
    let runs := mergeLines (cutRuns r.cropTo l.runs) (cutRuns r.cropTo l2.runs)
    r.nextLine data = some ((encodeLine r.form r.enc runs).1,
      { r with dec := d2, enc := (encodeLine r.form r.enc runs).2 }) := by
  rw [Recoder.nextLine_of_recode hm, Recoder.recodeLine, h]
  simp [merge, h2]

end

/-! ## Fill (R138) -/

theorem padLine_eq (m : Nat) (line : Bits) :
    padLine m line = List.replicate (2 * ((m - line.length + 1) / 2)) true ++ line := by
  have fill : markFill = List.replicate 2 true := rfl
  have pairs : ceilDiv (m - line.length) 2 = (m - line.length + 1) / 2 := rfl
  rw [padLine, fill, pairs, List.flatten_replicate_replicate, Nat.mul_comm]

theorem padLine_length (m : Nat) (line : Bits) :
    (padLine m line).length =
      if m ≤ line.length then line.length else if (m - line.length) % 2 = 0 then m else m + 1 := by
  rw [padLine_eq, List.length_append, List.length_replicate]
  split
  · omega
  · split <;> omega

/-! ## The stream of a burst (R139) -/

/-- The bits a decode context has yet to read. -/
def Decoder.left (d : Decoder) (data : Bits) : Nat := (data.drop d.pos).length

theorem Decoder.left_le (d : Decoder) (data : Bits) : d.left data ≤ data.length := by
  simp [Decoder.left]

/-- A line read leaves fewer bits to read. -/
theorem Decoder.left_next {d d' : Decoder} {data : Bits} {l : DecodedLine} (h : d.next data = some (l, d')) :
    d'.left data < d.left data := by
  unfold Decoder.next at h
  split at h
  · cases h
  · rename_i x read
    have less := (decodeBits_some _ _ _ _ x read).1
    cases h
    simp only [Decoder.left, Decoder.after, List.length_drop] at less ⊢
    omega

/-- The next line changes nothing of the Recoder but its two contexts, and leaves fewer bits to read. -/
theorem Recoder.nextLine_some {r r' : Recoder} {data line : Bits} (h : r.nextLine data = some (line, r')) :
    (∃ d e, r' = { r with dec := d, enc := e }) ∧ r'.dec.left data < r.dec.left data := by
  cases first : r.dec.next data with
  | none => rw [Recoder.nextLine_eq_none first] at h; cases h
  | some x =>
    obtain ⟨l, d⟩ := x
    have less := Decoder.left_next first
    rcases r.mode_eq with mode | mode
    · rw [Recoder.nextLine_copy mode first] at h
      cases h
      exact ⟨⟨_, _, rfl⟩, less⟩
    · by_cases alone : r.merge = false ∨ d.next data = none
      · rw [Recoder.nextLine_recode_single mode first alone] at h
        cases h
        exact ⟨⟨_, _, rfl⟩, less⟩
      · obtain ⟨merge, more⟩ := not_or.mp alone
        obtain ⟨⟨l2, d2⟩, second⟩ := Option.ne_none_iff_exists'.mp more
        rw [Recoder.nextLine_recode_pair mode first (by simpa using merge) second] at h
        cases h
        exact ⟨⟨_, _, rfl⟩, Nat.lt_trans (Decoder.left_next second) less⟩

/-- The carry has no part in what the next line is. -/
theorem Recoder.nextLine_carry (r : Recoder) (data carry : Bits) :
    ({ r with carry := carry } : Recoder).nextLine data
      = (r.nextLine data).map (fun x => (x.1, { x.2 with carry := carry })) := by
  rcases r.mode_eq with hm | hm
  · rw [Recoder.nextLine_of_copy hm, Recoder.nextLine_of_copy (r := { r with carry := carry }) hm]
    simp only [Recoder.copyLine]
    cases r.dec.next data <;> rfl
  · rw [Recoder.nextLine_of_recode hm, Recoder.nextLine_of_recode (r := { r with carry := carry }) hm]
    simp only [Recoder.recodeLine]
    cases r.dec.next data <;> rfl

theorem Recoder.pack_full {m : Nat} {data acc : Bits} {r : Recoder} (fuel : Nat) (h : burstBits ≤ acc.length) :
    Recoder.pack m data fuel r acc = (acc, r) := by
  cases fuel with
  | zero => rfl
  | succ fuel => rw [Recoder.pack, if_pos h]

theorem Recoder.pack_end {m : Nat} {data acc : Bits} {r : Recoder} (fuel : Nat) (h : r.nextLine data = none) :
    Recoder.pack m data fuel r acc = (acc, r) := by
  cases fuel with
  | zero => rfl
  | succ fuel => rw [Recoder.pack, h, ite_self]

theorem Recoder.pack_line {m fuel : Nat} {data acc line : Bits} {r r' : Recoder} (room : acc.length < burstBits)
    (h : r.nextLine data = some (line, r')) :
    Recoder.pack m data (fuel + 1) r acc = Recoder.pack m data fuel r' (acc ++ padLine m line) := by
  rw [Recoder.pack, if_neg (Nat.not_le_of_lt room), h]

/-- The carry passes through the packing untouched. -/
theorem Recoder.pack_carry (m : Nat) (data carry : Bits) (fuel : Nat) :
    ∀ (r : Recoder) (acc : Bits), Recoder.pack m data fuel { r with carry := carry } acc
      = ((Recoder.pack m data fuel r acc).1, { (Recoder.pack m data fuel r acc).2 with carry := carry }) := by
  induction fuel with
  | zero => intro r acc; rfl
  | succ fuel ih =>
    intro r acc
    by_cases full : burstBits ≤ acc.length
    · rw [Recoder.pack_full _ full, Recoder.pack_full _ full]
    · have room := Nat.lt_of_not_le full
      have next := Recoder.nextLine_carry r data carry
      cases h : r.nextLine data with
      | none =>
        rw [h] at next
        rw [Recoder.pack_end _ next, Recoder.pack_end _ h]
      | some x =>
        rw [h] at next
        rw [Recoder.pack_line room next, Recoder.pack_line room h, ih]

/-- Fuel for the bits left to read is enough. -/
theorem Recoder.pack_fuel (m : Nat) (data : Bits) (f : Nat) :
    ∀ (g : Nat) (r : Recoder) (acc : Bits), r.dec.left data ≤ f → f ≤ g →
      Recoder.pack m data f r acc = Recoder.pack m data g r acc := by
  induction f with
  | zero =>
    intro g r acc left _
    have done : r.nextLine data = none := by
      cases h : r.nextLine data with
      | none => rfl
      | some x => have := (Recoder.nextLine_some (r' := x.2) h).2; omega
    rw [Recoder.pack_end _ done, Recoder.pack_end _ done]
  | succ f ih =>
    intro g r acc left le
    obtain ⟨g, rfl⟩ : ∃ k, g = k + 1 := ⟨g - 1, by omega⟩
    by_cases full : burstBits ≤ acc.length
    · rw [Recoder.pack_full _ full, Recoder.pack_full _ full]
    · have room := Nat.lt_of_not_le full
      cases h : r.nextLine data with
      | none => rw [Recoder.pack_end _ h, Recoder.pack_end _ h]
      | some x =>
        have less := (Recoder.nextLine_some (r' := x.2) h).2
        rw [Recoder.pack_line room h, Recoder.pack_line room h, ih g _ _ (by omega) (by omega)]

section
variable {r : Recoder} {rate : Rate} {data : Bits}

theorem Recoder.burst_eq :
    let packed := Recoder.pack (minLineBits r.minTime rate) data (data.length + 1) r r.carry
    r.burst rate data = (packed.1.take 65536, { packed.2 with carry := packed.1.drop 65536 }) := rfl

theorem Recoder.burst_full (h : 65536 ≤ r.carry.length) :
    r.burst rate data = (r.carry.take 65536, { r with carry := r.carry.drop 65536 }) := by
  simp only [Recoder.burst_eq, Recoder.pack_full _ h]

theorem Recoder.burst_end (room : r.carry.length < 65536) (h : r.nextLine data = none) :
    r.burst rate data = (r.carry, { r with carry := [] }) := by
  simp only [Recoder.burst_eq, Recoder.pack_end _ h, List.take_of_length_le (Nat.le_of_lt room),
    List.drop_eq_nil_of_le (Nat.le_of_lt room)]

/-- One line of a burst: its padded bits join the stream. -/
theorem Recoder.burst_line {line : Bits} {r' : Recoder} (room : r.carry.length < 65536)
    (h : r.nextLine data = some (line, r')) :
    r.burst rate data = ({ r' with
      carry := r.carry ++ padLine (minLineBits r.minTime rate) line } : Recoder).burst rate data := by
  obtain ⟨⟨d, e, same⟩, less⟩ := Recoder.nextLine_some h
  have minTime : r'.minTime = r.minTime := by rw [same]
  have left := r.dec.left_le data
  have packed : Recoder.pack (minLineBits r'.minTime rate) data (data.length + 1) r r.carry
      = Recoder.pack (minLineBits r'.minTime rate) data (data.length + 1) r'
          (r.carry ++ padLine (minLineBits r'.minTime rate) line) := by
    rw [Recoder.pack_line room h, Recoder.pack_fuel _ data data.length (data.length + 1) r' _ (by omega) (by omega)]
  simp only [Recoder.burst_eq, ← minTime, packed, Recoder.pack_carry]

end

/-! ## Blocks (R139) -/

theorem byteBits_bitsByte (b : Bits) : byteBits (bitsByte b) = (b ++ List.replicate 8 true).take 8 := by
  have size : ((b ++ List.replicate 8 true).take 8).length = 8 := by simp
  have small := bitsNat_lt ((b ++ List.replicate 8 true).take 8)
  have back := natBits_bitsNat ((b ++ List.replicate 8 true).take 8)
  rw [size] at small back
  rw [byteBits, bitsByte, BitVec.toNat_ofNat, Nat.mod_eq_of_lt small, back]

/-- The one bits that complete the last byte. -/
theorem unpackBytes_packBytes (b : Bits) :
    unpackBytes (packBytes b) = b ++ List.replicate ((8 - b.length % 8) % 8) true := by
  induction b using packBytes.induct with
  | case1 => rfl
  | case2 x0 x1 x2 x3 x4 x5 x6 x7 rest ih =>
    have byte := byteBits_bitsByte [x0, x1, x2, x3, x4, x5, x6, x7]
    rw [packBytes, unpackBytes, List.flatMap_cons, byte, ← unpackBytes, ih]
    have same : ([x0, x1, x2, x3, x4, x5, x6, x7] ++ rest).length % 8 = rest.length % 8 := by simp; omega
    exact congrArg (fun k => [x0, x1, x2, x3, x4, x5, x6, x7] ++ (rest ++ List.replicate ((8 - k) % 8) true)) same.symm
  | case3 short ne long =>
    have size : 1 ≤ short.length ∧ short.length < 8 := by
      refine ⟨List.length_pos_iff.mpr ne, Nat.lt_of_not_le fun h => ?_⟩
      match short with
      | x0 :: x1 :: x2 :: x3 :: x4 :: x5 :: x6 :: x7 :: rest => exact long _ _ _ _ _ _ _ _ rest rfl
    rw [packBytes.eq_3 short ne long, unpackBytes, List.flatMap_singleton, byteBits_bitsByte, List.take_append,
      List.take_of_length_le (by omega), List.take_replicate]
    congr 2
    omega

theorem unpackBytes_append (a b : List Byte) : unpackBytes (a ++ b) = unpackBytes a ++ unpackBytes b :=
  List.flatMap_append

theorem cutBlocks_nil (fuel : Nat) : cutBlocks fuel [] = [] := by cases fuel <;> rfl

theorem cutBlocks_cons {fuel : Nat} {bits : Bits} (h : bits ≠ []) :
    cutBlocks (fuel + 1) bits = packBytes (bits.take 2048) :: cutBlocks fuel (bits.drop 2048) := by
  rw [cutBlocks, if_neg h]; rfl

theorem cutBlocks_length (fuel : Nat) :
    ∀ bits : Bits, bits.length ≤ 2048 * fuel → (cutBlocks fuel bits).length = (bits.length + 2047) / 2048 := by
  induction fuel with
  | zero => intro bits h; rw [cutBlocks, List.length_nil]; omega
  | succ fuel ih =>
    intro bits h
    by_cases ne : bits = []
    · subst ne; rfl
    · have pos := List.length_pos_iff.mpr ne
      rw [cutBlocks_cons ne, List.length_cons, ih _ (by rw [List.length_drop]; omega), List.length_drop]
      omega

/-- Every block but the last is whole. -/
theorem cutBlocks_whole (fuel : Nat) :
    ∀ (bits : Bits) (i : Nat) (b : List Byte), (cutBlocks fuel bits)[i]? = some b →
      i + 1 < (cutBlocks fuel bits).length → b.length = 256 := by
  induction fuel with
  | zero => intro bits i b h; cases h
  | succ fuel ih =>
    intro bits i b h more
    by_cases ne : bits = []
    · subst ne; cases h
    · rw [cutBlocks_cons ne] at h more
      rw [List.length_cons] at more
      cases i with
      | zero =>
        have rest : bits.drop 2048 ≠ [] := by
          intro e; rw [e, cutBlocks_nil] at more; simp at more
        have long : 2048 < bits.length := by simpa [List.drop_eq_nil_iff] using rest
        cases h
        rw [packBytes_length, List.length_take, Nat.min_eq_left (Nat.le_of_lt long)]
        rfl
      | succ i => exact ih _ i b h (by omega)

/-- The blocks hold the stream and the one bits that complete its last byte. -/
theorem unpackBytes_cutBlocks (fuel : Nat) :
    ∀ bits : Bits, bits.length ≤ 2048 * fuel →
      unpackBytes (cutBlocks fuel bits).flatten
        = bits ++ List.replicate ((8 - bits.length % 8) % 8) true := by
  induction fuel with
  | zero =>
    intro bits h
    have e : bits = [] := List.length_eq_zero_iff.mp (by omega)
    subst e; rfl
  | succ fuel ih =>
    intro bits h
    by_cases ne : bits = []
    · subst ne; rfl
    · rw [cutBlocks_cons ne, List.flatten_cons, unpackBytes_append, unpackBytes_packBytes]
      by_cases last : bits.length ≤ 2048
      · rw [List.drop_eq_nil_of_le last, List.take_of_length_le last, cutBlocks_nil]
        simp [unpackBytes]
      · have whole : (8 - (bits.take 2048).length % 8) % 8 = 0 := by
          rw [List.length_take, Nat.min_eq_left (by omega)]
        have same : (bits.length - 2048) % 8 = bits.length % 8 := by omega
        rw [ih _ (by rw [List.length_drop]; omega), whole, List.replicate_zero, List.append_nil,
          ← List.append_assoc, List.take_append_drop, List.length_drop, same]

end Sys2Proof.Machine
end

section
/-! PROOFS. BurstFrames.lean: what is handed to the pump with a burst, a resend and a page end (R140, R141, R147). -/

namespace Sys2Proof.Machine

theorem PerLine.set_set_same {α : Type} (p : PerLine α) (n : Line) (a b : α) :
    (p.set n a).set n b = p.set n b := by
  match n with
  | 0 | 1 | 2 | 3 => rfl

/-- Frames handed to the pump of line n, and its channel as it is then. -/
def State.sentFrames (s : State) (n : Line) (ch : Channel) (fs : List Frame) : State :=
  { s with
    outputs := s.outputs ++ fs.map (fun f => .pump n (.frame (Frame.bytes f)))
    lines := s.lines.set n ch }

theorem State.foldl_sendFrame {α : Type} (n : Line) (f : α → Frame) (xs : List α) :
    ∀ s : State, xs.foldl (fun t x => t.sendFrame n (f x)) s
      = { s with outputs := s.outputs ++ (xs.map f).map (fun f => .pump n (.frame (Frame.bytes f))) } := by
  induction xs with
  | nil => intro s; simp
  | cons x xs ih =>
    intro s
    rw [List.foldl_cons, ih]
    simp [State.sendFrame, State.pump, State.emit, State.setOutputs]

/-- A call context, frames and a timer, one after another, are one step. -/
theorem State.sentFrames_of_steps (s : State) (n : Line) (c : OutCall) (fs : List Frame) (t : Timer) (ms : Nat) :
    ({ s.setOut n c with outputs := s.outputs ++ fs.map (fun f => .pump n (.frame (Frame.bytes f))) } :
        State).startTimer n t ms
      = s.sentFrames n (({ s.chan n with call := some (.outgoing c) } : Channel).start t (s.timebase + ms)) fs := by
  simp [State.startTimer, State.setOut, State.setChan, State.setLines, State.chan, State.sentFrames,
    PerLine.set_set_same]

theorem State.sendPositions_eq (s : State) (n : Line) (c : OutCall) (which : Nat → Bool) :
    let chosen := c.burst.zipIdx.filter (fun p => which p.2)
    s.sendPositions n c which = s.sentFrames n
      (({ s.chan n with call := some (.outgoing c) } : Channel).start .tally
        (s.timebase + tallyWaitFor (chosen.map (fun p => p.1.length)).sum c.rateNow))
      (chosen.map (fun p => Frame.block p.2 p.1) ++ [.check c.lastPos c.burstBit]) := by
  intro chosen
  rw [← State.sentFrames_of_steps, State.sendPositions, 
    State.foldl_sendFrame n (fun p : List Byte × Nat => Frame.block p.2 p.1)]
  simp [State.sendFrame, State.pump, State.emit, State.setOutputs, State.setOut, State.setChan, State.setLines,
    chosen]

theorem State.sendPageEnd_eq (s : State) (n : Line) (c : OutCall) (page : Nat) :
    let last := s.endsWithLast c page
    s.sendPageEnd n c page = s.sentFrames n
      (({ s.chan n with call := some (.outgoing { c with
          burst := [], missing := 0, rounds := 0, resends := 0, phase := some .ending
          pageEnd := some (if last then .last else .more) }) } : Channel).start .pageEndReply (s.timebase + 6000))
      [if last then .last c.pageBit else .more c.pageBit] := by
  intro last
  rw [← State.sentFrames_of_steps]
  rfl

/-- R140: the whole burst, its bit turned from the burst before. -/
theorem State.sendBurst_eq (s : State) (n : Line) (c : OutCall) (blocks : List (List Byte)) :
    let bit := if c.anyBurst then !c.burstBit else false
    s.sendBurst n c blocks = s.sentFrames n
      (({ s.chan n with call := some (.outgoing { c with
          burst := blocks, missing := 0, rounds := 0, resends := 0, phase := some .checking
          burstBit := bit, anyBurst := true }) } : Channel).start .tally
        (s.timebase + tallyWaitFor (blocks.map List.length).sum c.rateNow))
      (blocks.zipIdx.map (fun x => Frame.block x.2 x.1) ++ [.check (blocks.length - 1) bit]) := by
  have turned : (c.anyBurst && !c.burstBit) = if c.anyBurst then !c.burstBit else false := by
    cases c.anyBurst <;> rfl
  have lengths : blocks.zipIdx.map (fun p => p.1.length) = blocks.map List.length := by
    rw [← List.zipIdx_map_fst 0 blocks, List.map_map, List.zipIdx_map_fst]; rfl
  have whole : blocks.zipIdx.filter (fun _ => true) = blocks.zipIdx := List.filter_eq_self.mpr (fun _ _ => rfl)
  intro bit
  rw [State.sendBurst, State.sendPositions_eq]
  simp only [whole, lengths, turned]
  rfl

/-- R147: when the page end is LAST. -/
theorem State.endsWithLast_iff (s : State) (c : OutCall) (page : Nat) :
    s.endsWithLast c page = true ↔ c.endAfter ≠ none
      ∨ ∃ j, s.findJob c.job = some j ∧ j.state = .closed ∧ j.pages.getLast? = some page := by
  unfold State.endsWithLast
  cases s.findJob c.job <;> simp [Option.isSome_iff_ne_none]

/-- The channel as it was before the last write has no part in what is sent. -/
theorem State.sentFrames_setChan (s : State) (n : Line) (a ch : Channel) (fs : List Frame) :
    (s.setChan n a).sentFrames n ch fs = s.sentFrames n ch fs := by
  simp [State.sentFrames, State.setChan, State.setLines, PerLine.set_set_same]

theorem State.endsWithLast_setChan (s : State) (n : Line) (ch : Channel) (c : OutCall) (page : Nat) :
    (s.setChan n ch).endsWithLast c page = s.endsWithLast c page := rfl

section
variable {s : State} {n : Line} {c : OutCall} {r : Recoder} {p : Page} {rate : Rate}

theorem State.nextBurst_ends (hp : s.findPage r.page = some p) (hr : c.rate = some rate)
    (h : (r.burst rate (s.pageBits p)).1 = []) :
    s.nextBurst n c r
      = (s.setChan n { s.chan n with recoder := some (r.burst rate (s.pageBits p)).2 }).sendPageEnd n c r.page := by
  rw [State.nextBurst, hp]
  simp only [OutCall.rateNow, hr, Option.getD_some, if_pos h]

theorem State.nextBurst_sends (hp : s.findPage r.page = some p) (hr : c.rate = some rate)
    (h : (r.burst rate (s.pageBits p)).1 ≠ []) :
    s.nextBurst n c r
      = (s.setChan n { s.chan n with recoder := some (r.burst rate (s.pageBits p)).2 }).sendBurst n c
          (cutBlocks 32 (r.burst rate (s.pageBits p)).1) := by
  rw [State.nextBurst, hp]
  simp only [OutCall.rateNow, hr, Option.getD_some, if_neg h]
  rfl

end

end Sys2Proof.Machine
end

section
/-! PROOFS. BurstAndPageEnd.lean: the statement about bursts, the page end and the Recoder's lines. -/

namespace Sys2Proof.Proofs
open Sys2Proof.Machine

/-- Settles O52: the frames of a burst are one list handed to the pump (`State.sendPositions_eq`), every line consumes
data, so that the packing can be taken up line by line (`Recoder.burst_line`), and a valid line is known by its pixels
(`eq_of_runsToPixels`). -/
theorem burstAndPageEnd : Obligations.BurstAndPageEnd := by
  refine ⟨?frames, ?blocks, ?fill, ?stream, ?lines⟩
  case frames =>
    intro s n c r p rate hp hr
    have rateNow : c.rateNow = rate := by rw [OutCall.rateNow, hr]; rfl
    refine ⟨fun ended last => ?_, fun ended more => ?_, fun left => ?_, fun same => ?_⟩
    · have isLast := (State.endsWithLast_iff s c r.page).mpr last
      rw [State.nextBurst_ends hp hr ended, State.sendPageEnd_eq, State.sentFrames_setChan,
        State.endsWithLast_setChan, isLast, State.chan_setChan_same]
      rfl
    · have notLast := Bool.eq_false_iff.mpr (mt (State.endsWithLast_iff s c r.page).mp more)
      rw [State.nextBurst_ends hp hr ended, State.sendPageEnd_eq, State.sentFrames_setChan,
        State.endsWithLast_setChan, notLast, State.chan_setChan_same]
      rfl
    · rw [State.nextBurst_sends hp hr left, State.sendBurst_eq, State.sentFrames_setChan,
        State.chan_setChan_same, rateNow]
      rfl
    · have rateSame : ({ c with resends := 0, phase := some .checking } : OutCall).rateNow = rate := rateNow
      rw [State.resendMissing, State.sendPositions_eq, rateSame]
      dsimp only
      rw [same, List.map_map]
      rfl
  case blocks =>
    intro bits _ fits
    refine ⟨cutBlocks_length 32 bits fits, cutBlocks_whole 32 bits, _, ?_, unpackBytes_cutBlocks 32 bits fits⟩
    omega
  case fill => exact fun m line => ⟨padLine_eq m line, padLine_length m line⟩
  case stream =>
    exact fun r rate data => ⟨Recoder.burst_full, Recoder.burst_end, fun line r' => Recoder.burst_line⟩
  case lines =>
    intro r data
    refine ⟨Recoder.nextLine_eq_none, fun l d => Recoder.nextLine_copy, ?_⟩
    intro l d mode first w sends shows _ le valid runs
    refine ⟨?single, ?odd, ?pair⟩
    case single =>
      rintro merge ⟨validShown, shown⟩
      have line := Recoder.nextLine_recode_single mode first (.inl merge)
      rwa [eq_cutRuns_of_shows le valid validShown shown] at line
    case odd =>
      rintro _ alone ⟨validShown, shown⟩
      have line := Recoder.nextLine_recode_single mode first (.inr alone)
      rwa [eq_cutRuns_of_shows le valid validShown shown] at line
    case pair =>
      rintro l2 d2 merge second _ ⟨validShown, shown⟩
      have line := Recoder.nextLine_recode_pair mode first merge second
      rwa [eq_mergeLines_of_shows validShown shown] at line

end Sys2Proof.Proofs
end

section
/-! PROOFS. LineRepair.lean: what each step of line repair leaves of the runs and of the pixels, and the statement about
it (R44). -/

namespace Sys2Proof.Machine

/-! ## Runs one after another (R22) -/

/-- After an odd number of runs the other colour is drawn. -/
theorem pixelsFrom_append (a b : List Nat) :
    ∀ colour, pixelsFrom colour (a ++ b)
      = pixelsFrom colour a ++ pixelsFrom (if a.length % 2 = 1 then !colour else colour) b := by
  induction a with
  | nil => intro colour; rfl
  | cons r rs ih =>
    intro colour
    have turned : (if rs.length % 2 = 1 then !(!colour) else !colour)
        = if (r :: rs).length % 2 = 1 then !colour else colour := by
      rw [List.length_cons, Bool.not_not]
      split
      · rw [if_neg (by omega)]
      · rw [if_pos (by omega)]
    rw [List.cons_append, pixelsFrom, ih, turned, pixelsFrom, List.append_assoc]

/-- A run list is valid for its own sum where no run but the first is 0. -/
theorem validRuns_own_sum (r : Nat) (rs : List Nat) :
    validRuns (r :: rs).sum (r :: rs) = true ↔ ∀ x ∈ rs, 1 ≤ x := by
  rw [validRuns_cons, List.sum_cons, and_iff_left rfl]

/-- A valid line has as many pixels as the width. -/
theorem validRuns_pixels_length {w : Nat} {rs : List Nat} (valid : validRuns w rs = true) :
    (runsToPixels rs).length = w :=
  (runsToPixels_length rs).trans (validRuns_sum valid)

/-- More runs after a list that has some must not be 0. -/
theorem validRuns_append {w : Nat} {a b : List Nat} (valid : validRuns w a = true) (posB : ∀ x ∈ b, 1 ≤ x) :
    validRuns (w + b.sum) (a ++ b) = true := by
  cases a with
  | nil => cases valid
  | cons r rs =>
    rw [validRuns_cons] at valid
    rw [List.cons_append, validRuns_cons, List.forall_mem_append, List.sum_append]
    obtain ⟨pos, sum⟩ := valid
    exact ⟨⟨pos, posB⟩, by omega⟩

/-- The last run of a line made longer. -/
theorem validRuns_grow_last {w last : Nat} {init : List Nat} (valid : validRuns w (init ++ [last]) = true)
    (more : Nat) : validRuns (w + more) (init ++ [last + more]) = true := by
  cases init with
  | nil => simp_all [validRuns_cons]
  | cons r rs =>
    simp only [List.cons_append, validRuns_cons, List.forall_mem_append, List.forall_mem_singleton,
      List.sum_append, List.sum_singleton] at valid ⊢
    obtain ⟨⟨pos, posLast⟩, sum⟩ := valid
    exact ⟨⟨pos, by omega⟩, by omega⟩

/-! ## Merging -/

theorem mergeFrom_eq_cons (cur : Nat) (rs : List Nat) :
    ∃ first rest, mergeFrom cur rs = first :: rest ∧ cur ≤ first ∧ ∀ x ∈ rest, 1 ≤ x := by
  induction cur, rs using mergeFrom.induct with
  | case1 cur => exact ⟨cur, [], rfl, Nat.le_refl cur, by simp⟩
  | case2 cur => exact ⟨cur, [], rfl, Nat.le_refl cur, by simp⟩
  | case3 cur b rest ih =>
    obtain ⟨first, tail, e, le, pos⟩ := ih
    exact ⟨first, tail, e, by omega, pos⟩
  | case4 cur a rest ih =>
    obtain ⟨first, tail, e, le, pos⟩ := ih
    refine ⟨cur, first :: tail, by rw [mergeFrom, e], Nat.le_refl cur, ?_⟩
    simpa using ⟨by omega, pos⟩

/-- Two runs around a run of 0 are one run of their colour. -/
theorem pixelsFrom_mergeFrom (cur : Nat) (rs : List Nat) :
    ∀ colour, pixelsFrom colour (mergeFrom cur rs) = pixelsFrom colour (cur :: rs) := by
  induction cur, rs using mergeFrom.induct with
  | case1 cur => intro colour; rfl
  | case2 cur => intro colour; simp [mergeFrom, pixelsFrom]
  | case3 cur b rest ih =>
    intro colour
    rw [mergeFrom, ih]
    simp [pixelsFrom, ← List.replicate_append_replicate]
  | case4 cur a rest ih => intro colour; rw [mergeFrom, pixelsFrom, ih, ← pixelsFrom]

theorem validRuns_mergeZeros (rs : List Nat) : validRuns (mergeZeros rs).sum (mergeZeros rs) = true := by
  cases rs with
  | nil => rfl
  | cons r rs =>
    obtain ⟨first, rest, e, -, pos⟩ := mergeFrom_eq_cons r rs
    rw [mergeZeros, e]
    exact (validRuns_own_sum first rest).mpr pos

theorem runsToPixels_mergeZeros (rs : List Nat) : runsToPixels (mergeZeros rs) = runsToPixels rs := by
  cases rs with
  | nil => rfl
  | cons r rs => exact pixelsFrom_mergeFrom r rs false

/-! ## Padding -/

theorem padRuns_of_le {w : Nat} {rs : List Nat} (h : w ≤ rs.sum) : padRuns w rs = rs :=
  if_neg (by omega)

theorem padRuns_odd {w last : Nat} {init : List Nat} (short : (init ++ [last]).sum < w)
    (white : init.length % 2 = 0) :
    padRuns w (init ++ [last]) = init ++ [last + (w - (init ++ [last]).sum)] := by
  rw [padRuns, if_pos short, if_pos (by rw [List.length_append, List.length_singleton]; omega),
    List.dropLast_concat, List.getLastD_concat]

theorem padRuns_even {w : Nat} {rs : List Nat} (short : rs.sum < w) (black : rs.length % 2 = 0) :
    padRuns w rs = rs ++ [w - rs.sum] := by
  rw [padRuns, if_pos short, if_neg (by omega)]

/-- Step 2 leaves a line that has the width as it is, makes a last white run longer, or appends a white run. -/
theorem padRuns_cases (w : Nat) (rs : List Nat) :
    (w ≤ rs.sum ∧ padRuns w rs = rs)
    ∨ (∃ init last, rs = init ++ [last] ∧ init.length % 2 = 0 ∧ rs.sum < w
        ∧ padRuns w rs = init ++ [last + (w - rs.sum)])
    ∨ (rs.length % 2 = 0 ∧ rs.sum < w ∧ padRuns w rs = rs ++ [w - rs.sum]) := by
  by_cases short : rs.sum < w
  · by_cases odd : rs.length % 2 = 1
    · obtain rfl | ⟨init, last, e⟩ := List.eq_nil_or_concat rs
      · cases odd
      · rw [List.concat_eq_append] at e
        subst e
        have white : init.length % 2 = 0 := by
          rw [List.length_append, List.length_singleton] at odd; omega
        exact .inr (.inl ⟨init, last, rfl, white, short, padRuns_odd short white⟩)
    · exact .inr (.inr ⟨by omega, short, padRuns_even short (by omega)⟩)
  · exact .inl ⟨by omega, padRuns_of_le (by omega)⟩

theorem validRuns_padRuns (w : Nat) {rs : List Nat} (valid : validRuns rs.sum rs = true) :
    validRuns (max w rs.sum) (padRuns w rs) = true := by
  obtain ⟨le, e⟩ | ⟨init, last, rfl, -, short, e⟩ | ⟨-, short, e⟩ := padRuns_cases w rs
  · rwa [e, Nat.max_eq_right le]
  · rw [e, show max w (init ++ [last]).sum = (init ++ [last]).sum + (w - (init ++ [last]).sum) by omega]
    exact validRuns_grow_last valid _
  · rw [e, show max w rs.sum = rs.sum + [w - rs.sum].sum by rw [List.sum_singleton]; omega]
    exact validRuns_append valid (by rw [List.forall_mem_singleton]; omega)

/-- What is added is white. -/
theorem runsToPixels_padRuns (w : Nat) (rs : List Nat) :
    runsToPixels (padRuns w rs) = runsToPixels rs ++ List.replicate (w - rs.sum) false := by
  obtain ⟨le, e⟩ | ⟨init, last, rfl, white, -, e⟩ | ⟨white, -, e⟩ := padRuns_cases w rs
  · rw [e, Nat.sub_eq_zero_of_le le, List.replicate_zero, List.append_nil]
  · rw [e]
    simp [runsToPixels, pixelsFrom_append, white, pixelsFrom, ← List.replicate_append_replicate]
  · rw [e]
    simp [runsToPixels, pixelsFrom_append, white, pixelsFrom]

/-! ## The three steps in order -/

/-- Cutting at the width leaves a line of the width as it is. -/
theorem cutRuns_own_width {w : Nat} {rs : List Nat} (valid : validRuns w rs = true) : cutRuns w rs = rs :=
  eq_of_runsToPixels (validRuns_cutRuns (Nat.le_refl w) valid) valid (by
    have full := validRuns_pixels_length valid
    rw [runsToPixels_cutRuns, List.take_of_length_le (Nat.le_of_eq full)])

/-- Step 3 may as well cut in every case. -/
theorem repairLine_eq_cutRuns (w : Nat) (rs : List Nat) :
    repairLine w rs = cutRuns w (padRuns w (mergeZeros rs)) := by
  have valid := validRuns_padRuns w (validRuns_mergeZeros rs)
  have sum := validRuns_sum valid
  rw [repairLine]
  split
  · rfl
  · rw [Nat.max_def] at valid sum
    have full : (padRuns w (mergeZeros rs)).sum = w := by split at sum <;> omega
    rw [← sum, full] at valid
    exact (cutRuns_own_width valid).symm

theorem validRuns_repairLine (w : Nat) (rs : List Nat) : validRuns w (repairLine w rs) = true := by
  rw [repairLine_eq_cutRuns]
  exact validRuns_cutRuns (Nat.le_max_left w _) (validRuns_padRuns w (validRuns_mergeZeros rs))

theorem runsToPixels_repairLine (w : Nat) (rs : List Nat) :
    runsToPixels (repairLine w rs) = (runsToPixels rs ++ List.replicate w false).take w := by
  have same : (mergeZeros rs).sum = (runsToPixels rs).length := by
    rw [← runsToPixels_mergeZeros, runsToPixels_length]
  rw [repairLine_eq_cutRuns, runsToPixels_cutRuns, runsToPixels_padRuns, runsToPixels_mergeZeros, same,
    List.take_append, List.take_append, List.take_replicate, List.take_replicate, Nat.min_self,
    Nat.min_eq_left (Nat.sub_le w _)]

/-- A valid line is known by its pixels, and repair keeps the pixels of a line that has the width. -/
theorem repairLine_valid {w : Nat} {rs : List Nat} (valid : validRuns w rs = true) : repairLine w rs = rs :=
  eq_of_runsToPixels (validRuns_repairLine w rs) valid (by
    have full := validRuns_pixels_length valid
    rw [runsToPixels_repairLine, List.take_append_of_le_length (Nat.le_of_eq full.symm),
      List.take_of_length_le (Nat.le_of_eq full)])

end Sys2Proof.Machine

namespace Sys2Proof.Proofs
open Sys2Proof.Machine

/-- Settles O35: merging leaves a list valid for its own sum, padding for at least the width, and cutting for the width;
each step keeps the pixels up to it (`runsToPixels_repairLine`). -/
theorem repairGivesAValidLine : Obligations.RepairGivesAValidLine := by
  intro w runs _
  refine ⟨?_, runsToPixels_repairLine w runs, ?_⟩
  · have valid := validRuns_repairLine w runs
    have sum := validRuns_sum valid
    have bound : ∀ x ∈ repairLine w runs, x ≤ w := fun x hx => sum ▸ run_le_sum hx
    cases e : repairLine w runs with
    | nil => rw [e] at valid; cases valid
    | cons first rest =>
      rw [e] at valid sum bound
      have pos := ((validRuns_cons w first rest).mp valid).1
      exact ⟨first, rest, rfl, bound first (by simp), fun x hx => ⟨pos x hx, bound x (by simp [hx])⟩, sum⟩
  · rintro first rest rfl pos sum
    exact repairLine_valid ((validRuns_cons w first rest).mpr ⟨pos, by simpa using sum⟩)

end Sys2Proof.Proofs
end

section
/-! PROOFS. RecordTaking.lean: fields read as they were laid out (R207, R209), and the taking of the oldest record by
its command (R195, R196). -/

namespace Sys2Proof.Machine

/-! ## Fields read as they were laid out -/

@[simp] theorem get1_num1 {n : Nat} (h : n < 256) (r : List Byte) : get1 (num1 n ++ r) = some (n, r) := by
  rw [num1, List.singleton_append, get1, BitVec.toNat_ofNat, Nat.mod_eq_of_lt h]

@[simp] theorem get2_num2 {n : Nat} (h : n < 65536) (r : List Byte) : get2 (num2 n ++ r) = some (n, r) := by
  have high : n / 256 % 2 ^ 8 * 256 + n % 2 ^ 8 = n := by omega
  rw [num2, List.cons_append, List.singleton_append, get2, BitVec.toNat_ofNat, BitVec.toNat_ofNat, high]

/-- Items laid out one after another are read one after another. -/
theorem getItems_flatMap {α : Type} {item : List Byte → Option (α × List Byte)} {lay : α → List Byte} {xs : List α}
    (reads : ∀ x ∈ xs, ∀ r, item (lay x ++ r) = some (x, r)) (r : List Byte) :
    getItems item xs.length (xs.flatMap lay ++ r) = some (xs, r) := by
  induction xs with
  | nil => rfl
  | cons x xs ih =>
    rw [List.flatMap_cons, List.append_assoc, List.length_cons, getItems, reads x (by simp)]
    simp only [ih (fun y hy => reads y (by simp [hy]))]

/-! ## The record at the head of the input buffer -/

section
variable {s : State} {k : RecordKind} {r : LinkRecord}

/-- The command of the record's kind takes it. -/
theorem State.record_of_atHead (h : AtHead s k r) (effect : LinkRecord → State → State) :
    s.record k effect = (s.takeOldest r effect).finish s.disp.flags := by
  obtain ⟨head, kind, room⟩ := h
  obtain ⟨rest, input⟩ := List.head?_eq_some_iff.mp head
  rw [State.record, input]
  exact if_pos ⟨kind, room⟩

/-- A record that does not wait for READY, or that comes after it, has its effect. -/
theorem State.takeOldest_of_accepts (h : AtHead s k r) (accepts : k.needsReady = false ∨ s.loader.ready = true)
    (effect : LinkRecord → State → State) : s.takeOldest r effect = effect r (s.setLink s.link.take) := by
  rw [State.takeOldest, h.kind, if_neg]
  rcases accepts with e | e <;> simp [e]

end

end Sys2Proof.Machine
end

section
/-! PROOFS. PageRules.lean: a page record found, replaced and counted (R10, R32), and the coding contexts that write
to a page (R31 to R33, R48, R52, R54). -/

namespace Sys2Proof.Machine

section
variable {s t : State} {id : Nat} {p : Page} {c : Coding} {left : Bits}

theorem State.findPage_id (h : s.findPage id = some p) : p.id = id := by
  simpa using List.find?_some h

/-- R32: the line count rises by one, saturating. -/
theorem State.countLine_of_found (h : s.findPage id = some p) :
    s.countLine id = { s with store := { s.store with pages := s.store.pages.map (fun q =>
      if q.id = id then { p with lineCount := min 65535 (p.lineCount + 1) } else q) } } := by
  rw [State.countLine, h]
  simp only [State.putPage, Store.putPage, State.findPage_id h]
  rfl

theorem State.countLine_of_unused (h : s.findPage id = none) : s.countLine id = s := by
  rw [State.countLine, h]

/-! ## The scan context's held bits (R32, R33, R48) -/

theorem State.writeScanHeld_idle (h : s.scanCtx = none) : s.writeScanHeld = s := by
  rw [State.writeScanHeld, h]

/-- Every block granted: the request waits no more and the line is counted. -/
theorem State.writeScanHeld_granted (hc : s.scanCtx = some c)
    (hw : State.writeChain (writeFuel c.held) s c.page c.held = (t, [])) :
    s.writeScanHeld = State.countLine { t with
      scanCtx := some { c with held := [] }, store := { t.store with scanWaiting := false } } c.page := by
  rw [State.writeScanHeld, hc]
  simp only [hw]
  rfl

/-- A block refused: the rest stays held and the request waits. -/
theorem State.writeScanHeld_refused (hc : s.scanCtx = some c)
    (hw : State.writeChain (writeFuel c.held) s c.page c.held = (t, left)) (hl : left ≠ []) :
    s.writeScanHeld = { t with
      scanCtx := some { c with held := left }, store := { t.store with scanWaiting := true } } := by
  rw [State.writeScanHeld, hc]
  simp only [hw, if_neg hl]
  rfl

/-! ## The link context's line (R52, R54) -/

/-- The page and the counts before a line of the link context is written (R44). -/
def State.adjustedFor (s : State) (c : Coding) (arrived : List Nat) : State :=
  if repairLine c.width arrived = arrived then s else s.countAdjusted c.page

theorem State.codeLinkLine_granted {arrived : List Nat} {tag : Byte}
    (hw : State.writeChain (writeFuel (c.code (repairLine c.width arrived)).held) (s.adjustedFor c arrived) c.page
      (c.code (repairLine c.width arrived)).held = (t, [])) :
    s.codeLinkLine c tag arrived = State.countLine { t with
      linkCtx := some { c.code (repairLine c.width arrived) with held := [] } } c.page := by
  rw [State.adjustedFor] at hw
  simp only [State.codeLinkLine, hw]
  rfl

/-- R54: a request refused spoils the page. -/
theorem State.codeLinkLine_refused {arrived : List Nat} {tag : Byte}
    (hw : State.writeChain (writeFuel (c.code (repairLine c.width arrived)).held) (s.adjustedFor c arrived) c.page
      (c.code (repairLine c.width arrived)).held = (t, left)) (hl : left ≠ []) (hp : t.findPage c.page = some p) :
    s.codeLinkLine c tag arrived = (t.spoilPage p).2.stage
      (.pageSpoiled p.id p.source .storeFull p.lineCount (t.spoilPage p).1 (some tag)) := by
  rw [State.adjustedFor] at hw
  simp only [State.codeLinkLine, hw, if_neg hl, hp]

end

end Sys2Proof.Machine
end

section
/-! PROOFS. RasterLine.lean: the body of a RASTER LINE (R208), the reasons that refuse it (R53), and the statement about
it. -/

namespace Sys2Proof.Machine

/-- The body of a RASTER LINE, laid out. -/
def rasterBody (id : Nat) (runs : List Nat) : List Byte := num1 id ++ num2 runs.length ++ runs.flatMap num2

section
variable {s : State} {r : LinkRecord} {id : Nat} {runs : List Nat}

theorem parseRasterLine_rasterBody (hid : id < 256) (few : runs.length ≤ 1020) (small : ∀ x ∈ runs, x < 65536) :
    parseRasterLine (rasterBody id runs) = some (id, runs) := by
  have items := getItems_flatMap (item := get2) (lay := num2) (fun x hx => get2_num2 (small x hx)) []
  have enough : runs.length ≤ Config.maxRuns := few
  rw [List.append_nil] at items
  rw [parseRasterLine, rasterBody, List.append_assoc]
  simp only [get1_num1 hid, get2_num2 (show runs.length < 65536 by omega), Option.bind_eq_bind, Option.bind_some,
    if_pos enough, items, whole]

theorem parseRasterLine_of_many (hid : id < 256) (many : 1020 < runs.length) (fits : runs.length < 65536) :
    parseRasterLine (rasterBody id runs) = none := by
  have tooMany : ¬ runs.length ≤ Config.maxRuns := Nat.not_le.mpr many
  rw [parseRasterLine, rasterBody, List.append_assoc]
  simp only [get1_num1 hid, get2_num2 fits, Option.bind_eq_bind, Option.bind_some, if_neg tooMany]

theorem State.namedPage_rasterBody : s.namedPage (rasterBody id runs) = BitVec.ofNat 8 id := rfl

/-! ## The reasons in their order (R53) -/

theorem State.lineRefusal_of_not_ready {body : List Byte} (h : s.loader.ready = false) :
    s.lineRefusal body = some .notReady := by
  rw [State.lineRefusal, h]
  rfl

theorem State.lineRefusal_of_unparsed {body : List Byte} (h : s.loader.ready = true)
    (hb : parseRasterLine body = none) : s.lineRefusal body = some .badFormat := by
  simp [State.lineRefusal, h, hb]

theorem State.lineRefusal_of_unused {body : List Byte} (h : s.loader.ready = true)
    (hb : parseRasterLine body = some (id, runs)) (hp : s.findPage id = none) :
    s.lineRefusal body = some .notOpen := by
  simp [State.lineRefusal, h, hb, hp]

theorem State.lineRefusal_of_found {body : List Byte} {p : Page} (h : s.loader.ready = true)
    (hb : parseRasterLine body = some (id, runs)) (hp : s.findPage id = some p) :
    s.lineRefusal body = if p.source ≠ .link then some .notLink
      else if p.state ≠ .coding then some .notOpen else none := by
  simp [State.lineRefusal, h, hb, hp]

/-! ## The command -/

/-- R196: a RASTER LINE has its effect before the part is ready too. -/
theorem exec_rasterLine (h : AtHead s .rasterLine r) :
    exec .rasterLine s = .next ((recRasterLine r (s.setLink s.link.take)).finish s.disp.flags) := by
  rw [← State.takeOldest_of_accepts h (.inl rfl) recRasterLine, ← State.record_of_atHead h]
  rfl

theorem recRasterLine_refused {c : LineRefusal} (h : s.lineRefusal r.body = some c) :
    recRasterLine r s = s.stage (.lineRefused r.tag (s.namedPage r.body) c) := by
  rw [recRasterLine, h]

theorem recRasterLine_taken {c : Coding} (h : s.lineRefusal r.body = none)
    (hb : parseRasterLine r.body = some (id, runs)) (hc : s.linkCtx = some c) :
    recRasterLine r s = s.codeLinkLine c r.tag runs := by
  rw [recRasterLine, h, hb, hc]

end

end Sys2Proof.Machine

namespace Sys2Proof.Proofs
open Sys2Proof.Machine

/-- Settles O38: the command's record is taken in every state of the part (`exec_rasterLine`), its body is read as it
was laid out, the reasons of R53 follow one another (`State.lineRefusal_of_found` and those before it), and a line without
one is the link context's (`State.codeLinkLine_granted`, `State.codeLinkLine_refused`). -/
theorem rasterLine : Obligations.RasterLine := by
  intro s r id runs atHead hid fits small body taken refused
  change r.body = rasterBody id runs at body
  have runsOn : exec .rasterLine s = .next ((recRasterLine r taken).finish s.disp.flags) := exec_rasterLine atHead
  have refuses (c : LineRefusal) (h : taken.lineRefusal r.body = some c) : refused c := by
    rwa [recRasterLine_refused h, body, State.namedPage_rasterBody] at runsOn
  refine ⟨fun notReady => refuses _ (State.lineRefusal_of_not_ready notReady),
    fun ready => ⟨fun many => ?many, fun few => ?few⟩⟩
  case many =>
    have unparsed := parseRasterLine_of_many hid many fits
    exact refuses _ (State.lineRefusal_of_unparsed ready (body ▸ unparsed))
  case few =>
    have parses : parseRasterLine r.body = some (id, runs) := body ▸ parseRasterLine_rasterBody hid few small
    refine ⟨fun unused => refuses _ (State.lineRefusal_of_unused ready parses unused), fun p found => ?_⟩
    have reasons := State.lineRefusal_of_found (s := taken) ready parses found
    refine ⟨fun notLink => refuses _ ?_, fun link notCoding => refuses _ ?_, ?_⟩
    · rw [reasons, if_pos notLink]
    · rw [reasons, if_neg (fun other => other link), if_pos notCoding]
    · intro link coding c ctx line coded bits s1 t left writes
      rw [if_neg (fun other => other link), if_neg (fun other => other coding)] at reasons
      rw [recRasterLine_taken reasons parses ctx] at runsOn
      refine ⟨?_, fun more q hq => ?_⟩
      · rintro rfl
        rwa [State.codeLinkLine_granted writes] at runsOn
      · rwa [State.codeLinkLine_refused writes more hq] at runsOn

end Sys2Proof.Proofs
end

section
/-! PROOFS. ScannerRules.lean: what the Scanner Port does with a transfer, in each of its states, and with a jam (R45 to
R50, R57, R58). -/

namespace Sys2Proof.Machine

/-! ## Stall (R48, R58) -/

theorem State.stalled_iff (s : State) :
    s.stalled = true ↔ s.loader.ready = false ∨ ∃ c, s.scanCtx = some c ∧ c.held ≠ [] := by
  rw [State.stalled]
  cases s.scanCtx <;> simp

/-- Under stall a transfer stays with the scanner. -/
theorem State.present_of_stalled {s : State} (h : s.stalled = true) (x : ScanTransfer) :
    s.present x = { s with scanner := { s.scanner with presented := some x } } := if_pos h

theorem State.present_of_free {s : State} (h : ¬ s.stalled = true) (x : ScanTransfer) :
    s.present x = s.takeTransfer x := if_neg h

section
variable {s : State}

theorem State.takePresented_of_none (h : s.scanner.presented = none) : s.takePresented = s := by
  rw [State.takePresented, h]

theorem State.takePresented_of_stalled (h : s.stalled = true) : s.takePresented = s := by
  rw [State.takePresented]
  split
  · exact if_pos h
  · rfl

theorem State.takePresented_of_free {x : ScanTransfer} (h : ¬ s.stalled = true)
    (hx : s.scanner.presented = some x) :
    s.takePresented = State.takeTransfer { s with scanner := { s.scanner with presented := none } } x := by
  rw [State.takePresented, hx]
  exact if_neg h

/-! ## Page starts (R46, R50) -/

/-- A page start while a page is open gives that page up first. -/
theorem State.takeTransfer_pageStart (s : State) (w x : Nat) :
    s.takeTransfer (.pageStart w x)
      = (if s.scanner.port = .scanning then s.jamPage.flushNotices else s).startScan w x := by
  cases h : s.scanner.port <;> simp [State.takeTransfer, h]

theorem State.startScan_of_no_resolution {w x : Nat} (h : Resolution.ofCode x = none) :
    s.startScan w x = s.refuseStart .badValue := by
  rw [State.startScan, h]

theorem State.startScan_of_refused {w x : Nat} {res : Resolution} {e : RefusalCode}
    (h : Resolution.ofCode x = some res) (hp : s.createPage .scan w res 0 [] none .scan = .error e) :
    s.startScan w x = s.refuseStart e := by
  rw [State.startScan, h]
  simp only [hp]

theorem State.startScan_of_created {w x id : Nat} {res : Resolution} {v : State}
    (h : Resolution.ofCode x = some res) (hp : s.createPage .scan w res 0 [] none .scan = .ok (id, v)) :
    s.startScan w x = ((v.setScanCtx (some (Coding.begin v.settings id w res))).setPort .scanning).stage
      (.scanPage id w res) := by
  rw [State.startScan, h]
  simp only [hp]

/-! ## Pixel lines and page ends (R47, R49) -/

theorem State.takeTransfer_pixelLine_scanning (h : s.scanner.port = .scanning) (ps : List Bool) :
    s.takeTransfer (.pixelLine ps) = s.codeScanLine ps := by
  simp only [State.takeTransfer, h]

theorem State.takeTransfer_pixelLine_outside (h : s.scanner.port ≠ .scanning) (ps : List Bool) :
    s.takeTransfer (.pixelLine ps) = s := by
  cases hp : s.scanner.port with
  | scanning => exact absurd hp h
  | idle | discarding => simp only [State.takeTransfer, hp]

theorem State.takeTransfer_pageEnd_scanning (h : s.scanner.port = .scanning) :
    s.takeTransfer .pageEnd = s.endScan := by
  simp only [State.takeTransfer, h]

theorem State.takeTransfer_pageEnd_idle (h : s.scanner.port = .idle) : s.takeTransfer .pageEnd = s := by
  simp only [State.takeTransfer, h]

theorem State.takeTransfer_pageEnd_discarding (h : s.scanner.port = .discarding) :
    s.takeTransfer .pageEnd = s.setPort .idle := by
  simp only [State.takeTransfer, h]

section
variable {c : Coding} {p : Page}

theorem State.codeScanLine_of_context (hc : s.scanCtx = some c) (ps : List Bool) :
    s.codeScanLine ps = State.writeScanHeld { (if ps.length = c.width then s else s.countAdjusted c.page) with
      scanCtx := some (c.code (pixelsToRuns (fitPixels c.width ps))) } := by
  rw [State.codeScanLine, hc]
  rfl

theorem State.endScan_of_open (hc : s.scanCtx = some c) (hp : s.findPage c.page = some p) :
    let u := State.completePage ((s.setScanCtx none).setPort .idle) p.id .scan
    s.endScan = u.stage (.pageComplete p.id .scan p.lineCount p.codedBits p.adjusted (u.findPage p.id).isNone) := by
  intro u
  rw [State.endScan, hc, Option.bind_some, hp, ← Option.not_isSome]
  rfl

theorem State.jamPage_of_open (hc : s.scanCtx = some c) (hp : s.findPage c.page = some p) :
    s.jamPage = (s.spoilPage p).2.stage
      (.pageSpoiled p.id p.source .jam p.lineCount (s.spoilPage p).1 none) := by
  rw [State.jamPage, hc, Option.bind_some, hp]

end

/-! ## Jams (R50, R57) -/

theorem Scanner.startStands_iff (x : Scanner) :
    x.startStands = true ↔ ∃ w r, x.presented = some (.pageStart w r) := by
  rw [Scanner.startStands]
  split <;> simp_all

theorem State.takeJam_idle (h : s.scanner.port = .idle) : s.takeJam = s := by
  rw [State.takeJam, h]

theorem State.takeJam_discarding (h : s.scanner.port = .discarding) : s.takeJam = s.setPort .idle := by
  rw [State.takeJam, h]

theorem State.takeJam_scanning (h : s.scanner.port = .scanning) :
    s.takeJam = (if s.scanner.startStands then s.jamPage.flushNotices else s.jamPage).setPort .discarding := by
  rw [State.takeJam, h]

end

end Sys2Proof.Machine
end

section
/-! PROOFS. ScannerTransfers.lean: the statement about the scanner's transfers, its stall and its jam, and the writing
of its held bits. -/

namespace Sys2Proof.Proofs
open Sys2Proof.Machine

/-- Settles O40: a transfer presented stays or is taken by stall (`State.stalled_iff`), the port takes it by its state
(the rules of `State.takeTransfer` and `State.takeJam`), and what the held bits' writing leaves decides whether the line is
counted (`State.writeScanHeld_granted`, `State.writeScanHeld_refused`). -/
theorem scannerTransfers : Obligations.ScannerTransfers := by
  refine ⟨?events, ?presented, ?held⟩
  case events =>
    intro s stall port gives start
    have starts (u : State) (w x : Nat) : u.startScan w x = start u w x := by
      unfold start
      cases hr : Resolution.ofCode x with
      | none => exact State.startScan_of_no_resolution hr
      | some res =>
        cases hp : u.createPage .scan w res 0 [] none .scan with
        | error e =>
          simp only [hp]
          exact State.startScan_of_refused hr hp
        | ok made =>
          simp only [hp]
          rw [State.startScan_of_created hr hp]
          cases res <;> rfl
    have presents {c : Instr} {x : ScanTransfer} {u : State}
        (runs : exec c s = .next ((s.present x).finish s.disp.flags)) (e : s.present x = u) : gives c u := e ▸ runs
    have jams {u : State} (e : s.takeJam = u) : gives .scannerJam u := e ▸ rfl
    refine ⟨fun st => ?stalled, fun free => ?free, fun idle => jams (State.takeJam_idle idle),
      fun discarding => jams (State.takeJam_discarding discarding), fun scanning => ?jam,
      fun c p hc hp => State.jamPage_of_open hc hp⟩
    case stalled =>
      have stays := State.present_of_stalled ((State.stalled_iff s).mpr st)
      exact ⟨fun w x => presents rfl (stays _), fun ps => presents rfl (stays _), presents rfl (stays _)⟩
    case free =>
      have taken := State.present_of_free (mt (State.stalled_iff s).mp free)
      refine ⟨fun w x => presents rfl ?_, fun ps => ⟨fun outside => presents rfl ?_,
        fun scanning c hc => presents rfl ?_⟩, fun idle => presents rfl ?_, fun discarding => presents rfl ?_,
        fun scanning c p hc hp => presents rfl ?_⟩
      · rw [taken, State.takeTransfer_pageStart, starts]
      · rw [taken, State.takeTransfer_pixelLine_outside outside]
      · rw [taken, State.takeTransfer_pixelLine_scanning scanning, State.codeScanLine_of_context hc]
        rfl
      · rw [taken, State.takeTransfer_pageEnd_idle idle]
      · rw [taken, State.takeTransfer_pageEnd_discarding discarding]
        rfl
      · rw [taken, State.takeTransfer_pageEnd_scanning scanning, State.endScan_of_open hc hp]
        rfl
    case jam =>
      refine ⟨fun stands => jams ?_, fun none => jams ?_⟩
      · rw [State.takeJam_scanning scanning, if_pos ((Scanner.startStands_iff _).mpr stands)]
        rfl
      · rw [State.takeJam_scanning scanning, if_neg]
        · rfl
        · rintro stands
          obtain ⟨w, x, e⟩ := (Scanner.startStands_iff _).mp stands
          exact none w x e
  case presented =>
    intro s stall
    exact ⟨State.takePresented_of_none, fun st => State.takePresented_of_stalled ((State.stalled_iff s).mpr st),
      fun free x => State.takePresented_of_free (mt (State.stalled_iff s).mp free)⟩
  case held =>
    intro s
    refine ⟨State.writeScanHeld_idle, fun c t left hc writes => ?_⟩
    refine ⟨State.writeScanHeld_refused hc writes, ?_, ?_⟩
    · rintro rfl unused
      rw [State.writeScanHeld_granted hc writes]
      exact State.countLine_of_unused unused
    · rintro rfl p found
      rw [State.writeScanHeld_granted hc writes]
      exact State.countLine_of_found found

end Sys2Proof.Proofs
end

section
/-! PROOFS. RecordReading.lean: texts read as they were laid out (R209), and a record that a ready part takes (R195,
R196). -/

namespace Sys2Proof.Machine

@[simp] theorem getText_text {p : List Byte} (h : p.length < 256) (rest : List Byte) :
    getText (text p ++ rest) = some (p, rest) := by
  have count : (BitVec.ofNat 8 p.length).toNat = p.length := by
    rw [BitVec.toNat_ofNat, Nat.mod_eq_of_lt h]
  rw [text, num1, List.append_assoc, List.singleton_append, getText, count]
  simp

section
variable {s : State} {k : RecordKind} {r : LinkRecord}

/-- A record taken by a ready part has its effect. -/
theorem State.record_of_takes (h : Takes s k r) (effect : LinkRecord → State → State) :
    s.record k effect = (effect r (s.setLink s.link.take)).finish s.disp.flags := by
  rw [State.record_of_atHead h.toAtHead, State.takeOldest_of_accepts h.toAtHead (.inr h.ready)]

theorem State.parsed_some {α : Type} {p : Option α} {a : α} (h : p = some a) (f : α → State) :
    s.parsed r p f = f a := by
  rw [h, State.parsed]

end

end Sys2Proof.Machine
end

section
/-! PROOFS. DialPlanRules.lean: the dial plan: the test of entries and prefixes (R88), the plan after a load and a
remove (R88, R89), and the entry that serves a lookup (R90). -/

namespace Sys2Proof.Machine

/-! ## The test of R88 -/

theorem isDialled_iff (c : Byte) :
    isDialled c = true ↔ (48 ≤ c.toNat ∧ c.toNat ≤ 57) ∨ c = 42#8 ∨ c = 35#8 := by
  simp [isDialled, isDigit, or_assoc]

theorem prefixOk_iff (p : List Byte) : prefixOk p = true ↔ p.length ≤ 16 ∧ ∀ c ∈ p, isDialled c = true := by
  simp [prefixOk]

/-- R88 with log entry 20: every field of the entry is within its range. -/
structure DialItem.InRange (i : DialItem) : Prop where
  pfx : prefixOk i.pfx = true
  cls : i.cls ≤ 7
  strip : i.strip ≤ 16
  mask : 1 ≤ i.mask ∧ i.mask ≤ 15
  prepend : i.prepend.length ≤ 8 ∧ i.prepend.all isDialled = true
  barred : i.barred ≤ 1

theorem bitOf_of_le {n : Nat} (h : n ≤ 1) : bitOf n = some (n == 1) := by
  obtain rfl | rfl : n = 0 ∨ n = 1 := by omega
  all_goals rfl

theorem bitOf_of_gt {n : Nat} (h : 1 < n) : bitOf n = none := by
  rw [bitOf, if_neg (by omega), if_neg (by omega)]

section
variable {i : DialItem}

theorem DialItem.check_of_inRange (h : i.InRange) {cls : Fin 8} (hcls : cls.val = i.cls) :
    i.check = some ⟨i.pfx, cls, i.strip, i.prepend, BitVec.ofNat 4 i.mask, i.barred == 1⟩ := by
  obtain ⟨pfx, small, strip, ⟨low, high⟩, ⟨short, dialled⟩, barred⟩ := h
  have same : (⟨i.cls, by omega⟩ : Fin 8) = cls := Fin.ext hcls.symm
  rw [DialItem.check, dif_pos ⟨pfx, small, strip, low, high, short, dialled⟩, bitOf_of_le barred, Option.map_some, same]

theorem DialItem.check_of_not_inRange (h : ¬ i.InRange) : i.check = none := by
  rw [DialItem.check]
  split
  · next fields =>
    obtain ⟨pfx, small, strip, low, high, short, dialled⟩ := fields
    have barred : ¬ i.barred ≤ 1 := fun b => h ⟨pfx, small, strip, ⟨low, high⟩, ⟨short, dialled⟩, b⟩
    rw [bitOf_of_gt (by omega), Option.map_none]
  · rfl

/-! ## Loading and removing (R88, R89) -/

/-- The body of a DIAL PLAN LOAD, laid out. -/
def DialItem.body (i : DialItem) : List Byte :=
  text i.pfx ++ num1 i.cls ++ num1 i.strip ++ text i.prepend ++ num1 i.mask ++ num1 i.barred

theorem parseDialPlanLoad_body (pfx : i.pfx.length < 256) (prepend : i.prepend.length < 256) (cls : i.cls < 256)
    (strip : i.strip < 256) (mask : i.mask < 256) (barred : i.barred < 256) :
    parseDialPlanLoad i.body = some i := by
  have last : get1 (num1 i.barred) = some (i.barred, []) := by simpa using get1_num1 barred []
  simp only [parseDialPlanLoad, getDialItem, DialItem.body, List.append_assoc, getText_text pfx, getText_text prepend,
    get1_num1 cls, get1_num1 strip, get1_num1 mask, last, Option.bind_eq_bind, Option.bind_some, whole]

theorem parseDialPlanRemove_text {p : List Byte} (h : p.length < 256) : parseDialPlanRemove (text p) = some p := by
  have reads := getText_text h []
  rw [List.append_nil] at reads
  rw [parseDialPlanRemove, reads, whole]

end

section
variable {d d' : Dispatcher} {e : DialEntry} {p : List Byte}

theorem Dispatcher.holdsPrefix_iff : d.holdsPrefix p = true ↔ ∃ x ∈ d.plan, x.pfx = p := by
  simp [Dispatcher.holdsPrefix]

theorem Dispatcher.holdsPrefix_eq_false (h : ∀ x ∈ d.plan, x.pfx ≠ p) : d.holdsPrefix p = false := by
  simpa [Dispatcher.holdsPrefix] using h

theorem Dispatcher.loadEntry_of_held (h : d.holdsPrefix e.pfx = true) :
    d.loadEntry e = some { d with plan := d.plan.map (fun x => if x.pfx = e.pfx then e else x) } := if_pos h

theorem Dispatcher.loadEntry_of_room (h : d.holdsPrefix e.pfx = false) (room : d.plan.length < 128) :
    d.loadEntry e = some { d with plan := d.plan ++ [e] } := by
  rw [Dispatcher.loadEntry, if_neg (by simp [h])]
  exact if_pos room

theorem Dispatcher.loadEntry_of_full (h : d.holdsPrefix e.pfx = false) (full : 128 ≤ d.plan.length) :
    d.loadEntry e = none := by
  rw [Dispatcher.loadEntry, if_neg (by simp [h])]
  exact if_neg (Nat.not_lt.mpr full)

end

section
variable {s : State} {r : LinkRecord} {i : DialItem} {e : DialEntry} {p : List Byte}

theorem exec_dialPlanLoad (h : Takes s .dialPlanLoad r) {u : State}
    (effect : recDialPlanLoad r (s.setLink s.link.take) = u) :
    exec .dialPlanLoad s = .next (u.finish s.disp.flags) :=
  congrArg Host.Outcome.next ((State.record_of_takes h recDialPlanLoad).trans (by rw [effect]))

theorem exec_dialPlanRemove (h : Takes s .dialPlanRemove r) {u : State}
    (effect : recDialPlanRemove r (s.setLink s.link.take) = u) :
    exec .dialPlanRemove s = .next (u.finish s.disp.flags) :=
  congrArg Host.Outcome.next ((State.record_of_takes h recDialPlanRemove).trans (by rw [effect]))

theorem recDialPlanLoad_badValue (parses : parseDialPlanLoad r.body = some i) (hc : i.check = none) :
    recDialPlanLoad r s = s.refuse r .badValue := by
  rw [recDialPlanLoad, State.parsed_some parses, hc]

theorem recDialPlanLoad_full (parses : parseDialPlanLoad r.body = some i) (hc : i.check = some e)
    (free : s.disp.holdsPrefix e.pfx = false) (full : 128 ≤ s.disp.plan.length) :
    recDialPlanLoad r s = s.refuse r .full := by
  simp only [recDialPlanLoad, State.parsed_some parses, hc, Dispatcher.loadEntry_of_full free full]

theorem recDialPlanLoad_replaced (parses : parseDialPlanLoad r.body = some i) (hc : i.check = some e)
    (held : s.disp.holdsPrefix e.pfx = true) :
    recDialPlanLoad r s = ((s.setDisp { s.disp with
      plan := s.disp.plan.map (fun x => if x.pfx = e.pfx then e else x) }).requestPass).replyOk r [0#8] := by
  simp only [recDialPlanLoad, State.parsed_some parses, hc, Dispatcher.loadEntry_of_held held, held]
  rfl

theorem recDialPlanLoad_added (parses : parseDialPlanLoad r.body = some i) (hc : i.check = some e)
    (free : s.disp.holdsPrefix e.pfx = false) (room : s.disp.plan.length < 128) :
    recDialPlanLoad r s =
      ((s.setDisp { s.disp with plan := s.disp.plan ++ [e] }).requestPass).replyOk r [1#8] := by
  simp only [recDialPlanLoad, State.parsed_some parses, hc, Dispatcher.loadEntry_of_room free room, free]
  rfl

theorem recDialPlanRemove_badValue (parses : parseDialPlanRemove r.body = some p) (bad : ¬ prefixOk p = true) :
    recDialPlanRemove r s = s.refuse r .badValue := by
  rw [recDialPlanRemove, State.parsed_some parses, if_pos (by simpa using bad)]

theorem recDialPlanRemove_noSuch (parses : parseDialPlanRemove r.body = some p) (ok : prefixOk p = true)
    (free : s.disp.holdsPrefix p = false) : recDialPlanRemove r s = s.refuse r .noSuch := by
  rw [recDialPlanRemove, State.parsed_some parses, if_neg (by simp [ok]), if_pos (by simp [free])]

theorem recDialPlanRemove_removed (parses : parseDialPlanRemove r.body = some p) (ok : prefixOk p = true)
    (held : s.disp.holdsPrefix p = true) :
    recDialPlanRemove r s = ((s.setDisp { s.disp with
      plan := s.disp.plan.filter (fun x => decide (x.pfx ≠ p)) }).requestPass).replyOk r [] := by
  have same : (fun x : DialEntry => x.pfx != p) = fun x => decide (x.pfx ≠ p) := by
    funext x
    exact Bool.eq_iff_iff.mpr (by simp)
  rw [recDialPlanRemove, State.parsed_some parses, if_neg (by simp [ok]), if_neg (by simp [held]), same]

end

/-! ## The longest of the prefixes (R90) -/

/-- The longer of the entry found so far and the next one, the earlier one where they are as long. -/
def longerEntry (best : Option DialEntry) (e : DialEntry) : Option DialEntry :=
  match best with
  | none => some e
  | some b => if b.pfx.length < e.pfx.length then some e else some b

theorem longestEntry_eq_foldl (plan : List DialEntry) (dial : List Byte) :
    longestEntry plan dial = (plan.filter (fun e => e.pfx.isPrefixOf dial)).foldl longerEntry none := rfl

/-- The fold ends with one of the entries, and none of them has a longer one of the prefixes. -/
theorem foldl_longerEntry (b : DialEntry) (l : List DialEntry) : ∃ x ∈ b :: l,
    l.foldl longerEntry (some b) = some x ∧ ∀ y ∈ b :: l, y.pfx.length ≤ x.pfx.length := by
  induction l generalizing b with
  | nil => exact ⟨b, by simp⟩
  | cons e l ih =>
    by_cases longer : b.pfx.length < e.pfx.length
    · obtain ⟨x, member, found, longest⟩ := ih e
      refine ⟨x, List.mem_cons_of_mem b member, ?_, ?_⟩
      · rw [List.foldl_cons, longerEntry, if_pos longer, found]
      · have := longest e (by simp)
        simp only [List.mem_cons, forall_eq_or_imp] at longest ⊢
        exact ⟨by omega, longest⟩
    · obtain ⟨x, member, found, longest⟩ := ih b
      refine ⟨x, ?_, ?_, ?_⟩
      · rcases List.mem_cons.mp member with rfl | later
        · exact List.mem_cons_self
        · exact List.mem_cons_of_mem b (List.mem_cons_of_mem e later)
      · rw [List.foldl_cons, longerEntry, if_neg longer, found]
      · simp only [List.mem_cons, forall_eq_or_imp] at longest ⊢
        exact ⟨longest.1, by omega, longest.2⟩

section
variable {plan : List DialEntry} {dial : List Byte} {e : DialEntry}

theorem longestEntry_of_no_prefix (h : ∀ e ∈ plan, ¬ e.pfx <+: dial) : longestEntry plan dial = none := by
  have no : plan.filter (fun e => e.pfx.isPrefixOf dial) = [] := by simpa using h
  rw [longestEntry_eq_foldl, no, List.foldl_nil]

/-- In a plan of distinct prefixes an entry is known by its own. -/
theorem eq_of_pfx_eq {x y : DialEntry} (once : (plan.map (·.pfx)).Nodup) (hx : x ∈ plan) (hy : y ∈ plan)
    (same : x.pfx = y.pfx) : x = y := by
  induction plan with
  | nil => exact absurd hx List.not_mem_nil
  | cons e plan ih =>
    obtain ⟨fresh, rest⟩ := List.nodup_cons.mp once
    rcases List.mem_cons.mp hx with rfl | xLater <;> rcases List.mem_cons.mp hy with rfl | yLater
    · rfl
    · exact absurd (List.mem_map.mpr ⟨y, yLater, same.symm⟩) fresh
    · exact absurd (List.mem_map.mpr ⟨x, xLater, same⟩) fresh
    · exact ih rest xLater yLater

/-- Two prefixes of the dial string as long as each other are the same, and the prefixes of the plan are distinct. -/
theorem longestEntry_of_longest (once : (plan.map (·.pfx)).Nodup) (member : e ∈ plan) (begins : e.pfx <+: dial)
    (longest : ∀ x ∈ plan, x.pfx <+: dial → x.pfx.length ≤ e.pfx.length) : longestEntry plan dial = some e := by
  have kept (x : DialEntry) : x ∈ plan.filter (fun e => e.pfx.isPrefixOf dial) ↔ x ∈ plan ∧ x.pfx <+: dial := by
    simp
  rw [longestEntry_eq_foldl]
  match fits : plan.filter (fun e => e.pfx.isPrefixOf dial) with
  | [] => exact absurd (fits ▸ (kept e).mpr ⟨member, begins⟩) List.not_mem_nil
  | b :: l =>
    obtain ⟨x, hx, found, most⟩ := foldl_longerEntry b l
    obtain ⟨xMember, xBegins⟩ := (kept x).mp (fits ▸ hx)
    have asLong : x.pfx.length = e.pfx.length :=
      Nat.le_antisymm (longest x xMember xBegins) (most e (fits ▸ (kept e).mpr ⟨member, begins⟩))
    have same : x.pfx = e.pfx :=
      (List.prefix_of_prefix_length_le xBegins begins (Nat.le_of_eq asLong)).eq_of_length asLong
    obtain rfl := eq_of_pfx_eq once xMember member same
    exact fits ▸ found

theorem lookup_of_none (h : longestEntry plan dial = none) : lookup plan dial = .noRoute := by
  rw [lookup, h]

theorem lookup_of_barred (h : longestEntry plan dial = some e) (barred : e.barred = true) :
    lookup plan dial = .barred ⟨e.translate dial, e.cls, e.mask⟩ := by
  simp only [lookup, h, if_pos barred]

theorem lookup_of_pauses (h : longestEntry plan dial = some e) (free : e.barred = false)
    (pauses : ∀ c ∈ e.translate dial, c = pauseChar) : lookup plan dial = .noRoute := by
  have all : (e.translate dial).all (fun c => c == pauseChar) = true := by simpa using pauses
  simp [lookup, h, free, all]

theorem lookup_of_route (h : longestEntry plan dial = some e) (free : e.barred = false)
    (digit : ∃ c ∈ e.translate dial, c ≠ pauseChar) :
    lookup plan dial = .route ⟨e.translate dial, e.cls, e.mask⟩ := by
  have notAll : (e.translate dial).all (fun c => c == pauseChar) = false := by simpa using digit
  simp [lookup, h, free, notAll]

end

end Sys2Proof.Machine
end

section
/-! PROOFS. DialPlan.lean: the statements about the dial plan: its load and remove, and its lookup. -/

namespace Sys2Proof.Proofs
open Sys2Proof.Machine

/-- Settles O23: the fold over the entries whose prefixes fit ends with the longest of them (`foldl_longerEntry`), which
the distinct prefixes make the only one as long (`longestEntry_of_longest`). -/
theorem longestPrefixServes : Obligations.LongestPrefixServes := by
  intro plan dial once
  refine ⟨fun none => lookup_of_none (longestEntry_of_no_prefix none), fun e member begins longest => ?_⟩
  have serves := longestEntry_of_longest once member begins longest
  exact ⟨lookup_of_barred serves, lookup_of_pauses serves, lookup_of_route serves⟩

/-- Settles O22: each record is taken (`State.record_of_takes`) and its body read as laid out; the test of R88 decides
on BAD_VALUE (`DialItem.check_of_inRange`, `prefixOk_iff`), and whether an entry has it already on the rest
(`Dispatcher.loadEntry_of_held` and those after it). -/
theorem dialPlan : Obligations.DialPlan := by
  intro s r
  refine ⟨?load, ?remove⟩
  case load =>
    intro i takes pfx prepend cls strip mask barred body dialled ok
    have parses : parseDialPlanLoad r.body = some i :=
      body ▸ parseDialPlanLoad_body pfx prepend cls strip mask barred
    have inRange : i.InRange ↔ ok := by
      refine ⟨fun h => ?_, fun h => ?_⟩
      · obtain ⟨hp, hc, hs, ⟨low, high⟩, ⟨short, hd⟩, hb⟩ := h
        obtain ⟨len, digits⟩ := (prefixOk_iff _).mp hp
        exact ⟨len, fun c m => (isDialled_iff c).mp (digits c m), hc, hs, low, high, short,
          fun c m => (isDialled_iff c).mp (List.all_eq_true.mp hd c m), hb⟩
      · obtain ⟨len, digits, hc, hs, low, high, short, hd, hb⟩ := h
        exact ⟨(prefixOk_iff _).mpr ⟨len, fun c m => (isDialled_iff c).mpr (digits c m)⟩, hc, hs, ⟨low, high⟩,
          ⟨short, List.all_eq_true.mpr fun c m => (isDialled_iff c).mpr (hd c m)⟩, hb⟩
    refine ⟨fun bad => ?bad, fun good cls hcls => ?good⟩
    case bad =>
      have fails := DialItem.check_of_not_inRange (mt inRange.mp bad)
      exact exec_dialPlanLoad takes (recDialPlanLoad_badValue parses fails)
    case good =>
      have passes := DialItem.check_of_inRange (inRange.mpr good) hcls
      refine ⟨fun held => ?_, fun free room => ?_, fun free full => ?_⟩
      · exact exec_dialPlanLoad takes (recDialPlanLoad_replaced parses passes (Dispatcher.holdsPrefix_iff.mpr held))
      · exact exec_dialPlanLoad takes
          (recDialPlanLoad_added parses passes (Dispatcher.holdsPrefix_eq_false free) room)
      · exact exec_dialPlanLoad takes
          (recDialPlanLoad_full parses passes (Dispatcher.holdsPrefix_eq_false free) full)
  case remove =>
    intro p takes short body ok
    have parses : parseDialPlanRemove r.body = some p := body ▸ parseDialPlanRemove_text short
    have valid : prefixOk p = true ↔ ok := by
      rw [prefixOk_iff]
      simp only [isDialled_iff]
      rfl
    refine ⟨fun bad => ?_, fun good free => ?_, fun good held => ?_⟩
    · exact exec_dialPlanRemove takes (recDialPlanRemove_badValue parses (mt valid.mp bad))
    · exact exec_dialPlanRemove takes
        (recDialPlanRemove_noSuch parses (valid.mpr good) (Dispatcher.holdsPrefix_eq_false free))
    · exact exec_dialPlanRemove takes
        (recDialPlanRemove_removed parses (valid.mpr good) (Dispatcher.holdsPrefix_iff.mpr held))

end Sys2Proof.Proofs
end

section
/-! PROOFS. LineSet.lean: the line table's fields as LINE SET reads them, and the statement about the record (R92,
R93). -/

namespace Sys2Proof.Machine

/-! ## The test of R93 -/

theorem lineOf_val (n : Line) : lineOf n.val = some n := dif_pos n.isLt

theorem lineOf_of_gt {line : Nat} (h : 3 < line) : lineOf line = none := dif_neg (by omega)

theorem LineMode.ofCode_of_gt {mode : Nat} (h : 2 < mode) : LineMode.ofCode mode = none := by
  rw [LineMode.ofCode, if_neg (by omega), if_neg (by omega), if_neg (by omega)]

theorem Rate.ofBps_bps (c : Rate) : Rate.ofBps (Rate.bps c) = some c := by
  cases c <;> rfl

theorem Rate.ofBps_of_not_mem {n : Nat} (h : n ∉ [2400, 4800, 7200, 9600, 12000, 14400]) :
    Rate.ofBps n = none := by
  simp only [List.mem_cons, List.not_mem_nil, or_false, not_or] at h
  obtain ⟨h1, h2, h3, h4, h5, h6⟩ := h
  rw [Rate.ofBps, if_neg h1, if_neg h2, if_neg h3, if_neg h4, if_neg h5, if_neg h6]

section
variable {mode rings ceiling : Nat}

theorem lineFields_of_ranges {m : LineMode} (hm : LineMode.ofCode mode = some m) (few : rings ≤ 15) (c : Rate) :
    lineFields mode rings (Rate.bps c) = some (m, rings, c) := by
  simp only [lineFields, hm, Rate.ofBps_bps, if_pos few]

theorem lineFields_of_bad
    (bad : 2 < mode ∨ 15 < rings ∨ ceiling ∉ [2400, 4800, 7200, 9600, 12000, 14400]) :
    lineFields mode rings ceiling = none := by
  rcases bad with h | h | h
  · simp only [lineFields, LineMode.ofCode_of_gt h]
  · rw [lineFields]
    split
    · exact if_neg (Nat.not_le.mpr h)
    · rfl
  · rw [lineFields, Rate.ofBps_of_not_mem h]
    cases LineMode.ofCode mode <;> rfl

end

/-! ## The record -/

section
variable {s : State} {r : LinkRecord} {line mode rings ceiling : Nat}

/-- The body of a LINE SET, laid out, is read as it was. -/
theorem parseLineSet_body (hl : line < 256) (hm : mode < 256) (hr : rings < 256) (hc : ceiling < 65536) :
    parseLineSet (num1 line ++ num1 mode ++ num1 rings ++ num2 ceiling) = some (line, mode, rings, ceiling) := by
  have last : get2 (num2 ceiling) = some (ceiling, []) := by simpa using get2_num2 hc []
  simp only [parseLineSet, List.append_assoc, get1_num1 hl, get1_num1 hm, get1_num1 hr, last, Option.bind_eq_bind,
    Option.bind_some, whole]

theorem exec_lineSet (h : Takes s .lineSet r) {u : State} (effect : recLineSet r (s.setLink s.link.take) = u) :
    exec .lineSet s = .next (u.finish s.disp.flags) :=
  congrArg Host.Outcome.next ((State.record_of_takes h recLineSet).trans (by rw [effect]))

theorem recLineSet_badValue (parses : parseLineSet r.body = some (line, mode, rings, ceiling))
    (bad : lineOf line = none ∨ lineFields mode rings ceiling = none) :
    recLineSet r s = s.refuse r .badValue := by
  rw [recLineSet, State.parsed_some parses]
  rcases bad with h | h
  · simp only [h]
  · rw [h]
    cases lineOf line <;> rfl

theorem recLineSet_set {n : Line} {m : LineMode} {k : Nat} {c : Rate}
    (parses : parseLineSet r.body = some (line, mode, rings, ceiling)) (hl : lineOf line = some n)
    (hf : lineFields mode rings ceiling = some (m, k, c)) :
    recLineSet r s = ((s.setLineEntry n { s.lineEntry n with mode := m, rings := k, ceiling := c }).requestPass
      ).replyOk r [] := by
  simp only [recLineSet, State.parsed_some parses, hl, hf]

end

end Sys2Proof.Machine

namespace Sys2Proof.Proofs
open Sys2Proof.Machine

/-- Settles O24: a value out of its range leaves no line or no fields (`lineOf_of_gt`, `lineFields_of_bad`); otherwise
the entry of the line named is written, which leaves the others (`State.lineEntry_setLineEntry_other`). -/
theorem lineSet : Obligations.LineSet := by
  intro s r line mode rings ceiling takes hl hm hr hc body
  have parses : parseLineSet r.body = some (line, mode, rings, ceiling) := body ▸ parseLineSet_body hl hm hr hc
  refine ⟨fun bad => exec_lineSet takes (recLineSet_badValue parses ?refused),
    fun n m c isLine isMode isRate few => ?set⟩
  case refused => exact bad.imp lineOf_of_gt lineFields_of_bad
  case set =>
    subst isLine isRate
    have readsMode : LineMode.ofCode mode = some m := by
      subst isMode
      cases m <;> rfl
    have fields := lineFields_of_ranges readsMode few c
    let entry : LineEntry := { s.lineEntry n with mode := m, rings := rings, ceiling := c }
    refine ⟨((s.setLink s.link.take).setLineEntry n entry).requestPass.replyOk r [],
      exec_lineSet takes (recLineSet_set parses (lineOf_val n) fields), ?_, fun k other => ?_, rfl⟩
    · exact State.lineEntry_setLineEntry_same s n entry
    · exact State.lineEntry_setLineEntry_other s n k entry other

end Sys2Proof.Proofs
end

section
/-! PROOFS. DispatchRules.lean: the parts of the dispatch pass: the order of the candidates (R100), the notices in the
order in which they were staged (R205), the lowest line that fits (R104), and the turn of one candidate (R101 to R105). -/

namespace Sys2Proof.Machine

/-! ## Sorting -/

section
variable {α : Type} {le : α → α → Bool}

theorem sortInsert_perm (x : α) (l : List α) : (sortInsert le x l).Perm (x :: l) := by
  induction l with
  | nil => rfl
  | cons y ys ih =>
    rw [sortInsert]
    split
    · exact (ih.cons y).trans (.swap x y ys)
    · rfl

/-- An element put into a sorted list leaves it sorted, where the order is total and transitive. -/
theorem sortInsert_pairwise (total : ∀ a b, le a b = true ∨ le b a = true)
    (trans : ∀ a b c, le a b = true → le b c = true → le a c = true) (x : α) {l : List α}
    (sorted : l.Pairwise (fun a b => le a b = true)) :
    (sortInsert le x l).Pairwise (fun a b => le a b = true) := by
  induction l with
  | nil => exact List.pairwise_singleton _ x
  | cons y ys ih =>
    obtain ⟨first, rest⟩ := List.pairwise_cons.mp sorted
    rw [sortInsert]
    split
    · next yx =>
      refine List.pairwise_cons.mpr ⟨fun z hz => ?_, ih rest⟩
      rcases List.mem_cons.mp ((sortInsert_perm x ys).mem_iff.mp hz) with rfl | old
      · exact yx
      · exact first z old
    · next yx =>
      have xy := (total x y).resolve_right yx
      refine List.pairwise_cons.mpr ⟨fun z hz => ?_, sorted⟩
      rcases List.mem_cons.mp hz with rfl | old
      · exact xy
      · exact trans x y z xy (first z old)

theorem stableSort_perm (l : List α) : (stableSort le l).Perm l := by
  have inserted (acc : List α) : (l.foldl (fun acc x => sortInsert le x acc) acc).Perm (acc ++ l) := by
    induction l generalizing acc with
    | nil => simp
    | cons x l ih =>
      refine (ih _).trans (((sortInsert_perm x acc).append_right l).trans ?_)
      exact List.perm_middle.symm
  exact inserted []

theorem stableSort_pairwise (total : ∀ a b, le a b = true ∨ le b a = true)
    (trans : ∀ a b c, le a b = true → le b c = true → le a c = true) (l : List α) :
    (stableSort le l).Pairwise (fun a b => le a b = true) := by
  have kept (acc : List α) (sorted : acc.Pairwise (fun a b => le a b = true)) :
      (l.foldl (fun acc x => sortInsert le x acc) acc).Pairwise (fun a b => le a b = true) := by
    induction l generalizing acc with
    | nil => exact sorted
    | cons x l ih => exact ih _ (sortInsert_pairwise total trans x sorted)
  exact kept [] .nil

end

/-! ## Dispatch order (R100) -/

theorem Job.dispatchBefore_iff (a b : Job) : a.dispatchBefore b = true ↔
    a.priority.code < b.priority.code
      ∨ (a.priority.code = b.priority.code ∧ (a.submission < b.submission
        ∨ (a.submission = b.submission ∧ a.id ≤ b.id))) := by
  simp [Job.dispatchBefore]

theorem Job.dispatchBefore_total (a b : Job) : a.dispatchBefore b = true ∨ b.dispatchBefore a = true := by
  simp only [Job.dispatchBefore_iff]
  omega

theorem Job.dispatchBefore_trans (a b c : Job) (hab : a.dispatchBefore b = true) (hbc : b.dispatchBefore c = true) :
    a.dispatchBefore c = true := by
  simp only [Job.dispatchBefore_iff] at *
  omega

theorem Job.dispatchable_eq (j : Job) : j.dispatchable
    = ((j.state == .opened || j.state == .closed) && j.cancelling == none && j.released) := by
  rw [Job.dispatchable, Job.holdsPages]
  cases j.cancelling <;> rfl

theorem State.isCandidate_eq (s : State) (j : Job) (d : Dest) : s.isCandidate j d =
    ((d.state == .pending || (d.state == .waitingRetry
        && (match d.nextAttempt with | some (.waits t) => Decidable.decide (t ≤ s.timebase) | _ => true)))
      && (match j.pages[d.delivered]? with
        | some id => (match s.findPage id with | some p => p.state == .complete | none => false)
        | none => false)) := by
  rw [State.isCandidate, Job.nextPage]
  congr 2
  · congr 1
    rcases d.nextAttempt with _ | t | _ <;> rfl
  · cases j.pages[d.delivered]? <;> rfl

/-! ## The pass (R99) -/

section
variable {s : State}

theorem exec_dispatchPass_idle (h : ¬ (s.disp.passRequest = true ∧ s.loader.ready = true)) :
    exec .dispatchPass s = .next s :=
  if_neg (by simpa using h)

theorem exec_dispatchPass_taken (request : s.disp.passRequest = true) (ready : s.loader.ready = true) :
    exec .dispatchPass s = .next ((s.candidates.foldl State.turn
      { s with disp := { s.disp with passRequest := false } }).queueStaged.finish s.disp.flags) :=
  if_pos (by simp [request, ready])

/-! ## The pass's notices (R205) -/

/-- R205: as many notices join the queue as have places; one without a place sets the lost flag. -/
theorem Link.foldl_queueNotice (ns : List Notice) (l : Link) : ns.foldl Link.queueNotice l = { l with
    notices := l.notices ++ (ns.take (64 - l.notices.length)).map (fun n => ⟨l.intake, n⟩)
    lost := l.lost || decide (64 - l.notices.length < ns.length) } := by
  induction ns generalizing l with
  | nil => simp
  | cons n ns ih =>
    rw [List.foldl_cons, ih]
    by_cases room : l.notices.length < 64
    · have joins : l.queueNotice n = { l with notices := l.notices ++ [⟨l.intake, n⟩] } := if_pos room
      have places : 64 - l.notices.length = 64 - (l.notices.length + 1) + 1 := by omega
      simp [joins, places, List.take_succ_cons]
    · have lost : l.queueNotice n = { l with lost := true } := if_neg room
      have none : 64 - l.notices.length = 0 := by omega
      simp [lost, none]

theorem State.queueStaged_eq (s : State) :
    let ns := s.staged.map (Notice.withFree s.takePresented.store.freeList.length)
    s.queueStaged = { s with
      staged := []
      link := { s.link with
        notices := s.link.notices ++ (ns.take (64 - s.link.notices.length)).map (fun n => ⟨s.link.intake, n⟩)
        lost := s.link.lost || Decidable.decide (64 - s.link.notices.length < ns.length) } } := by
  rw [State.queueStaged, Link.foldl_queueNotice]
  rfl

end

/-! ## The line (R94, R104) -/

theorem allLines_split (n : Line) : ∃ below above, allLines = below ++ n :: above ∧ ∀ k ∈ below, k < n :=
  match n with
  | 0 => ⟨[], [1, 2, 3], rfl, by decide⟩
  | 1 => ⟨[0], [2, 3], rfl, by decide⟩
  | 2 => ⟨[0, 1], [3], rfl, by decide⟩
  | 3 => ⟨[0, 1, 2], [], rfl, by decide⟩

section
variable {s : State} {mask : BitVec 4} {p : Priority} {n : Line}

theorem State.lineFits_iff : s.lineFits n mask p = true ↔
    (s.chan n).state = .idle ∧ (s.lineEntry n).inService = true ∧ (s.lineEntry n).mode ≠ .receive
      ∧ mask.getLsbD n.val = true
      ∧ (p = .flash ∨ s.settings.lineReserve ≤ (allLines.filter (fun k => k != n && s.receivingSpare k)).length) := by
  simp only [State.lineFits, Bool.and_eq_true, Bool.or_eq_true, beq_iff_eq, bne_iff_ne, decide_eq_true_iff, and_assoc]
  rfl

theorem State.fittingLine_lowest (fits : s.lineFits n mask p = true)
    (lowest : ∀ k, k < n → ¬ s.lineFits k mask p = true) : s.fittingLine mask p = some n := by
  obtain ⟨below, above, split, less⟩ := allLines_split n
  refine List.find?_eq_some_iff_append.mpr ⟨fits, below, above, split, fun k hk => ?_⟩
  simpa using lowest k (less k hk)

theorem State.fittingLine_none (unfit : ∀ k, ¬ s.lineFits k mask p = true) : s.fittingLine mask p = none :=
  List.find?_eq_none.mpr fun k _ => unfit k

end

/-! ## A turn (R101 to R105) -/

section
variable {s : State} {j : Job} {i : Nat} {d : Dest} {r : Route}

theorem State.turn_of_found (hj : s.findJob j.id = some j) (hd : j.dests[i]? = some d) :
    s.turn (j.id, i) = s.consider j i d := by
  simp only [State.turn, State.findDest, hj, hd, Option.map_some]

theorem State.consider_of_noRoute (h : lookup s.disp.plan d.dial = .noRoute) :
    s.consider j i d = s.decide j i d .failed .noRoute none := by
  rw [State.consider, h]

theorem State.consider_of_barred (h : lookup s.disp.plan d.dial = .barred r) :
    s.consider j i d = s.decide j i d .failed .barred (some r) := by
  rw [State.consider, h]

theorem State.consider_of_held (h : lookup s.disp.plan d.dial = .route r) (gate : s.gate j.account r.cls = false) :
    s.consider j i d = s.decide j i d .heldAccount .accountHeld (some r) := by
  simp only [State.consider, h, gate]
  rfl

theorem State.consider_of_no_line (h : lookup s.disp.plan d.dial = .route r)
    (gate : s.gate j.account r.cls = true)
    (noLine : 32 ≤ s.charge.slots ∨ s.fittingLine r.mask j.priority = none) :
    s.consider j i d = s.putJob (j.setDest i { d with route := some r }) := by
  have line : (if s.charge.slots < Config.ticketSlots then s.fittingLine r.mask j.priority else none) = none := by
    rcases noLine with full | unfit
    · exact if_neg (Nat.not_lt.mpr full)
    · rw [unfit, ite_self]
  simp only [State.consider, h, gate, line]
  rfl

theorem State.consider_of_line {n : Line} (h : lookup s.disp.plan d.dial = .route r)
    (gate : s.gate j.account r.cls = true) (slot : s.charge.slots < 32)
    (fits : s.fittingLine r.mask j.priority = some n) : s.consider j i d = s.bind j i d r n := by
  have line : (if s.charge.slots < Config.ticketSlots then s.fittingLine r.mask j.priority else none) = some n :=
    (if_pos slot).trans fits
  simp only [State.consider, h, gate, line]
  rfl

/-- R105, R111: a bind reserves a slot, takes the line off hook in SEIZE with the dial tone wait, and clears its
LINEn_FREE. -/
theorem State.bind_eq (n : Line) : s.bind j i d r n =
    { s.putJob (j.setDest i { d with state := .bound, line := some n, route := some r, nextAttempt := none }) with
      charge := { s.charge with slots := s.charge.slots + 1 }
      lines := s.lines.set n
        ⟨.seize, none, some (.outgoing (OutCall.new j i r)), none, [(.dialTone, s.timebase + 3000)]⟩
      outputs := s.outputs ++ [.offHook n]
      disp := { s.disp with flags := s.disp.flags &&& ~~~(1#16 <<< (8 + n.val)) } } := by
  simp only [State.bind, State.startTimer, State.emit, State.chan, State.setChan, State.setOutputs, State.setLines,
    PerLine.get_set_same, PerLine.set_set_same]
  rfl

end

end Sys2Proof.Machine
end

section
/-! PROOFS. DispatchPass.lean: the statement about the dispatch pass. -/

namespace Sys2Proof.Proofs
open Sys2Proof.Machine

/-- Settles O48: the candidates are those of the dispatchable jobs in their sorted order (`stableSort_pairwise`), the
notices staged take the free places of the queue (`Link.foldl_queueNotice`), and a turn follows the lookup, the gate and
the lines in that order (the rules of `State.consider`). -/
theorem dispatchPass : Obligations.DispatchPass := by
  refine ⟨?pass, State.queueStaged_eq, ?turn⟩
  case pass =>
    intro s
    refine ⟨exec_dispatchPass_idle, fun request ready => ?taken⟩
    intro able due present
    refine ⟨stableSort Job.dispatchBefore (s.jobs.jobs.filter Job.dispatchable), ?_, ?_, ?_⟩
    · have same : Job.dispatchable = able := funext Job.dispatchable_eq
      rw [← same]
      exact stableSort_perm _
    · exact (stableSort_pairwise Job.dispatchBefore_total Job.dispatchBefore_trans _).imp
        fun h => (Job.dispatchBefore_iff _ _).mp h
    · have same : s.isCandidate = fun j d => due d && present j d :=
        funext fun j => funext fun d => State.isCandidate_eq s j d
      rw [exec_dispatchPass_taken request ready, State.candidates, same]
  case turn =>
    intro s j i d hj hd put decided spare
    rw [State.turn_of_found hj hd]
    refine ⟨State.consider_of_noRoute, fun r barred => State.consider_of_barred barred,
      fun r routed => ⟨State.consider_of_held routed, fun gate => ⟨fun noLine => ?noLine, ?bound⟩⟩⟩
    case noLine =>
      refine State.consider_of_no_line routed gate (noLine.imp_right fun unfit => ?_)
      exact State.fittingLine_none fun k h => unfit k (State.lineFits_iff.mp h)
    case bound =>
      intro n slot fit lowest call ch
      have line := State.fittingLine_lowest (State.lineFits_iff.mpr fit)
        fun k below h => lowest k below (State.lineFits_iff.mp h)
      rw [State.consider_of_line routed gate slot line, State.bind_eq]
      rfl

end Sys2Proof.Proofs
end

section
/-! PROOFS. IdleRules.lean: what the part does of itself on an empty queue (log entry 2): what it turns to, the
millisecond that goes by (R154), and which expiries have come with it. -/

namespace Sys2Proof.Machine

/-! ## What an empty queue turns to -/

section
variable {s : State}

theorem step_of_empty (empty : s.pending = []) : step s = .next s.idle := by
  rw [step, empty]

theorem Link.takeable_of_atHead {k : RecordKind} {r : LinkRecord} (h : AtHead s k r) :
    s.link.takeable = some r := by
  obtain ⟨rest, input⟩ := List.head?_eq_some_iff.mp h.head
  rw [Link.takeable, input]
  exact if_pos h.room

theorem Link.takeable_eq_none (h : ∀ k r, ¬ AtHead s k r) : s.link.takeable = none := by
  rw [Link.takeable]
  split
  · next r rest input => exact if_neg fun room => h _ r ⟨by simp [input], rfl, room⟩
  · rfl

theorem State.idle_of_record {k : RecordKind} {r : LinkRecord} (h : AtHead s k r) :
    s.idle = { s with pending := [k.command] } := by
  simp only [State.idle, Link.takeable_of_atHead h, h.kind]
  rfl

theorem State.idle_of_request (noRecord : s.link.takeable = none)
    (request : s.disp.passRequest = true ∧ s.loader.ready = true) :
    s.idle = { s with pending := [.dispatchPass] } := by
  simp only [State.idle, noRecord, request, Bool.and_self, if_true]
  rfl

theorem State.boundaryWaits_iff :
    s.boundaryWaits = true ↔ s.charge.clock.ms % 1800000 = 0 ∧ s.findBand ≠ s.charge.band := by
  simp [State.boundaryWaits, Config.slotMs]

theorem State.idle_of_boundary (noRecord : s.link.takeable = none)
    (request : ¬ (s.disp.passRequest = true ∧ s.loader.ready = true)) (waits : s.boundaryWaits = true) :
    s.idle = { s with pending := [.slotBoundary] } := by
  simp only [State.idle, noRecord, Bool.and_eq_true, if_neg request, if_pos waits]
  rfl

theorem State.idle_of_rest (noRecord : s.link.takeable = none)
    (request : ¬ (s.disp.passRequest = true ∧ s.loader.ready = true)) (rests : ¬ s.boundaryWaits = true) :
    s.idle = s.tick := by
  simp only [State.idle, noRecord, Bool.and_eq_true, if_neg request, if_neg rests]

/-! ## A millisecond (R154) -/

theorem Clock.advance_one {c : Clock} (day : c.day ≤ 6) (ms : c.ms ≤ 86399999) : c.advance 1 =
    if c.ms = 86399999 then ⟨if c.day = 6 then 0 else c.day + 1, 0⟩ else ⟨c.day, c.ms + 1⟩ := by
  simp only [Clock.advance, Config.dayMs]
  split
  · split <;> rw [Clock.mk.injEq] <;> omega
  · rw [Clock.mk.injEq]
    omega

/-- On an empty queue a tick moves the time by a millisecond, and the queue is then what has come. -/
theorem State.tick_of_empty (empty : s.pending = []) : s.tick =
    { s with
      timebase := s.timebase + 1
      charge := { s.charge with clock := s.charge.clock.advance 1 }
      pending := State.dueCommands { s with
        timebase := s.timebase + 1, charge := { s.charge with clock := s.charge.clock.advance 1 } } } := by
  have elapsed : s.timebase + 1 - s.timebase = 1 := by omega
  simp only [State.tick, State.moveTo_of_lt (Nat.lt_succ_self s.timebase), elapsed, empty, List.nil_append]
  rfl

end

/-! ## The expiries that have come -/

/-- The time named is there: none is never there. -/
def State.timeCome (s : State) (x : Option Nat) : Prop := ∃ t, x = some t ∧ t ≤ s.timebase

theorem mem_allLines (n : Line) : n ∈ allLines := by
  revert n
  decide

theorem mem_due {now : Nat} {c e : Instr} {x : Option Nat} :
    c ∈ due now e x ↔ c = e ∧ ∃ t, x = some t ∧ t ≤ now := by
  cases x with
  | none => simp [due]
  | some t =>
    rw [due]
    split <;> simp [*]

/-- The line timer for whose expiry a command stands. -/
def expiringTimer : Instr → Option (Timer × Line)
  | .dialToneWaitExpiry n => some (.dialTone, n)
  | .pumpDialWaitExpiry n => some (.pumpDial, n)
  | .pauseWaitExpiry n => some (.pause, n)
  | .answerWaitExpiry n => some (.answer, n)
  | .capsWaitExpiry n => some (.caps, n)
  | .termsReplyWaitExpiry n => some (.termsReply, n)
  | .trainWaitExpiry n => some (.train, n)
  | .tallyWaitExpiry n => some (.tally, n)
  | .pageEndReplyWaitExpiry n => some (.pageEndReply, n)
  | .holdTimerExpiry n => some (.hold, n)
  | .waitKeepaliveExpiry n => some (.keepalive, n)
  | .pageWaitExpiry n => some (.pageWait, n)
  | .ringGapExpiry n => some (.ringGap, n)
  | .answerToneWaitExpiry n => some (.answerTone, n)
  | .calleeSilenceLimitExpiry n => some (.silence, n)
  | .lastPageWaitExpiry n => some (.lastPage, n)
  | .clearGuardExpiry n => some (.clearGuard, n)
  | .restartGuardExpiry n => some (.restartGuard, n)
  | _ => none

theorem expiringTimer_command (t : Timer) (n : Line) : expiringTimer (t.command n) = some (t, n) := by
  cases t <;> rfl

@[simp] theorem Timer.command_inj {t t' : Timer} {n n' : Line} : t.command n = t'.command n' ↔ t = t' ∧ n = n' := by
  refine ⟨fun same => ?_, fun ⟨ht, hn⟩ => ht ▸ hn ▸ rfl⟩
  have timers := congrArg expiringTimer same
  simpa only [expiringTimer_command, Option.some.injEq, Prod.mk.injEq] using timers

theorem ne_command_of_expiringTimer {c : Instr} (h : expiringTimer c = none) (t : Timer) (n : Line) :
    c ≠ t.command n := by
  rintro rfl
  simp [expiringTimer_command] at h

section
variable {s : State} {c : Instr}

theorem Channel.mem_timersInTurn {ch : Channel} {e : Timer × Nat} : e ∈ ch.timersInTurn ↔ e ∈ ch.timers := by
  by_cases last : e.1 = .keepalive <;> simp [Channel.timersInTurn, last]

theorem State.mem_dueLine {n : Line} : c ∈ s.dueLine n ↔
    (c = .pulseTimerExpiry n ∧ s.timeCome ((s.charge.meters.get n).map (·.nextExpiry)))
    ∨ ∃ t d, (t, d) ∈ (s.chan n).timers ∧ c = t.command n ∧ d ≤ s.timebase := by
  simp only [State.dueLine, List.mem_append, mem_due, List.mem_flatMap, Channel.mem_timersInTurn, Option.some.injEq,
    exists_eq_left', Prod.exists, State.timeCome]

/-- R78: the time a destination's attempt waits for. -/
theorem State.attemptTime_eq_some {job i t : Nat} : s.attemptTime job i = some t ↔
    ∃ j d, s.findJob job = some j ∧ j.dests[i]? = some d ∧ d.state = .waitingRetry
      ∧ d.nextAttempt = some (.waits t) := by
  simp only [State.attemptTime, State.findDest]
  cases s.findJob job with
  | none => simp
  | some j =>
    cases hd : j.dests[i]? with
    | none => simp [hd]
    | some d => cases hs : d.state <;> rcases hn : d.nextAttempt with _ | _ | _ <;> simp [hd, hs, hn]

theorem State.timeCome_attemptTime {job i : Nat} : s.timeCome (s.attemptTime job i) ↔
    ∃ j d t, s.findJob job = some j ∧ j.dests[i]? = some d ∧ d.state = .waitingRetry
      ∧ d.nextAttempt = some (.waits t) ∧ t ≤ s.timebase := by
  simp only [State.timeCome, State.attemptTime_eq_some]
  constructor
  · rintro ⟨t, ⟨j, d, found, at_, retry, waits⟩, come⟩
    exact ⟨j, d, t, found, at_, retry, waits, come⟩
  · rintro ⟨j, d, t, found, at_, retry, waits, come⟩
    exact ⟨t, ⟨j, d, found, at_, retry, waits⟩, come⟩

theorem State.mem_of_findJob {job : Nat} {j : Job} (h : s.findJob job = some j) : j ∈ s.jobs.jobs ∧ j.id = job :=
  ⟨List.mem_of_find?_eq_some h, by simpa using List.find?_some h⟩

theorem State.mem_dueAttempts : c ∈ s.dueAttempts ↔
    ∃ job i, c = .nextAttemptTime job i ∧ s.timeCome (s.attemptTime job i) := by
  simp only [State.dueAttempts, List.mem_flatMap, mem_due]
  constructor
  · rintro ⟨j, -, p, -, rfl, come⟩
    exact ⟨j.id, p.2, rfl, come⟩
  · rintro ⟨job, i, rfl, t, time, come⟩
    obtain ⟨j, d, found, at_, -⟩ := State.attemptTime_eq_some.mp time
    obtain ⟨member, rfl⟩ := State.mem_of_findJob found
    exact ⟨j, member, (d, i), List.mem_zipIdx_iff_getElem?.mpr at_, rfl, t, time, come⟩

/-- The expiry for which a command stands, other than a line timer's, has come. -/
def State.otherExpiryCome (s : State) : Instr → Prop
  | .configReadTimeout => s.timeCome (s.loader.load.map (·.readTimer))
  | .slotBoundary => s.charge.clock.ms % 1800000 = 0
  | .pulseTimerExpiry n => s.timeCome ((s.charge.meters.get n).map (·.nextExpiry))
  | .nextAttemptTime job i => s.timeCome (s.attemptTime job i)
  | .printHoldTimerExpiry => s.timeCome s.printer.holdTimer
  | .standbyTimerExpiry => s.timeCome s.printer.standbyTimer
  | .outboundLinkFree => s.timeCome (s.link.sending.map (·.doneAt))
  | _ => False

theorem State.otherExpiryCome_iff : s.otherExpiryCome c ↔
    (c = .configReadTimeout ∧ s.timeCome (s.loader.load.map (·.readTimer)))
    ∨ (c = .slotBoundary ∧ s.charge.clock.ms % 1800000 = 0)
    ∨ (∃ n, c = .pulseTimerExpiry n ∧ s.timeCome ((s.charge.meters.get n).map (·.nextExpiry)))
    ∨ (∃ job i, c = .nextAttemptTime job i ∧ s.timeCome (s.attemptTime job i))
    ∨ (c = .printHoldTimerExpiry ∧ s.timeCome s.printer.holdTimer)
    ∨ (c = .standbyTimerExpiry ∧ s.timeCome s.printer.standbyTimer)
    ∨ (c = .outboundLinkFree ∧ s.timeCome (s.link.sending.map (·.doneAt))) := by
  constructor
  · intro come
    unfold State.otherExpiryCome at come
    split at come
    · exact .inl ⟨rfl, come⟩
    · exact .inr (.inl ⟨rfl, come⟩)
    · exact .inr (.inr (.inl ⟨_, rfl, come⟩))
    · exact .inr (.inr (.inr (.inl ⟨_, _, rfl, come⟩)))
    · exact .inr (.inr (.inr (.inr (.inl ⟨rfl, come⟩))))
    · exact .inr (.inr (.inr (.inr (.inr (.inl ⟨rfl, come⟩)))))
    · exact .inr (.inr (.inr (.inr (.inr (.inr ⟨rfl, come⟩)))))
    · exact come.elim
  · rintro (⟨rfl, come⟩ | ⟨rfl, come⟩ | ⟨n, rfl, come⟩ | ⟨job, i, rfl, come⟩ | ⟨rfl, come⟩ | ⟨rfl, come⟩ | ⟨rfl, come⟩)
      <;> exact come

theorem State.expiringTimer_of_other (h : s.otherExpiryCome c) : expiringTimer c = none := by
  rcases State.otherExpiryCome_iff.mp h with
    ⟨rfl, -⟩ | ⟨rfl, -⟩ | ⟨n, rfl, -⟩ | ⟨job, i, rfl, -⟩ | ⟨rfl, -⟩ | ⟨rfl, -⟩ | ⟨rfl, -⟩ <;> rfl

/-- What is in the list of the expiries that have come: those of the line timers, and the others. -/
theorem State.mem_dueCommands : c ∈ s.dueCommands ↔
    (∃ n t d, (t, d) ∈ (s.chan n).timers ∧ c = Timer.command t n ∧ d ≤ s.timebase) ∨ s.otherExpiryCome c := by
  have boundary : c ∈ (if s.charge.clock.ms % Config.slotMs = 0 then [Instr.slotBoundary] else [])
      ↔ c = .slotBoundary ∧ s.charge.clock.ms % 1800000 = 0 := by
    rw [Config.slotMs]
    split <;> simp [*]
  have lines : c ∈ allLines.flatMap s.dueLine ↔ ∃ n, c ∈ s.dueLine n := by
    simp [List.mem_flatMap, mem_allLines]
  have timersFirst (read slot pulses timers rest : Prop) :
      read ∨ slot ∨ pulses ∨ timers ∨ rest ↔ timers ∨ read ∨ slot ∨ pulses ∨ rest := by
    rw [@or_left_comm pulses timers, @or_left_comm slot timers, @or_left_comm read timers]
  simp only [State.otherExpiryCome_iff, State.dueCommands, List.mem_append, mem_due, boundary, lines,
    State.mem_dueLine, State.mem_dueAttempts, exists_or, or_assoc]
  exact timersFirst ..

theorem State.mem_dueCommands_timer {t : Timer} {n : Line} :
    t.command n ∈ s.dueCommands ↔ ∃ d, (t, d) ∈ (s.chan n).timers ∧ d ≤ s.timebase := by
  have line : ¬ s.otherExpiryCome (t.command n) := fun h => by
    simpa [expiringTimer_command] using State.expiringTimer_of_other h
  rw [State.mem_dueCommands, or_iff_left line]
  constructor
  · rintro ⟨k, u, d, member, same, come⟩
    obtain ⟨rfl, rfl⟩ := Timer.command_inj.mp same
    exact ⟨d, member, come⟩
  · rintro ⟨d, member, come⟩
    exact ⟨n, t, d, member, rfl, come⟩

theorem State.mem_dueCommands_other (h : expiringTimer c = none) : c ∈ s.dueCommands ↔ s.otherExpiryCome c := by
  rw [State.mem_dueCommands, or_iff_right]
  rintro ⟨n, t, d, -, same, -⟩
  exact ne_command_of_expiringTimer h t n same

/-- Log entry 33: a line's WAIT keepalive comes after its other timers. -/
theorem State.keepalive_last {n : Line} {t : Timer} (other : t ≠ .keepalive)
    (timer : ∃ d, (t, d) ∈ (s.chan n).timers ∧ d ≤ s.timebase)
    (keepalive : ∃ d, (Timer.keepalive, d) ∈ (s.chan n).timers ∧ d ≤ s.timebase) :
    [t.command n, Timer.keepalive.command n].Sublist s.dueCommands := by
  have inLine {ts : List (Timer × Nat)} {u : Timer} (runs : ∃ d, (u, d) ∈ ts ∧ d ≤ s.timebase) :
      [u.command n].Sublist (ts.flatMap fun e => due s.timebase (e.1.command n) (some e.2)) := by
    obtain ⟨d, member, come⟩ := runs
    exact List.singleton_sublist.mpr (List.mem_flatMap.mpr ⟨_, member, mem_due.mpr ⟨rfl, d, rfl, come⟩⟩)
  have first : ∃ d, (t, d) ∈ (s.chan n).timers.filter (fun e => e.1 != .keepalive) ∧ d ≤ s.timebase := by
    simpa [other] using timer
  have last : ∃ d, (Timer.keepalive, d) ∈ (s.chan n).timers.filter (fun e => e.1 == .keepalive) ∧ d ≤ s.timebase := by
    simpa using keepalive
  have turn : [t.command n, Timer.keepalive.command n].Sublist (s.dueLine n) := by
    rw [State.dueLine, Channel.timersInTurn, List.flatMap_append]
    exact ((inLine first).append (inLine last)).trans (List.sublist_append_right _ _)
  obtain ⟨below, above, split, -⟩ := allLines_split n
  have lines : (s.dueLine n).Sublist (allLines.flatMap s.dueLine) := by
    rw [split, List.flatMap_append, List.flatMap_cons]
    exact (List.sublist_append_left _ _).trans (List.sublist_append_right _ _)
  have all : (allLines.flatMap s.dueLine).Sublist s.dueCommands := by
    simp only [State.dueCommands, List.append_assoc]
    exact (((List.sublist_append_left _ _).trans (List.sublist_append_right _ _)).trans
      (List.sublist_append_right _ _))
  exact (turn.trans lines).trans all

end

end Sys2Proof.Machine
end

section
/-! PROOFS. IdleStep.lean: the statement about the empty queue. -/

namespace Sys2Proof.Proofs
open Sys2Proof.Machine

/-- Settles O2: what the idle machine turns to goes by its tests in their order (the rules of `State.idle`), the
millisecond is `State.tick_of_empty`, and the expiries that have come are those of `State.mem_dueCommands`. -/
theorem idleStep : Obligations.IdleStep := by
  refine ⟨?turn, ?expiries⟩
  case turn =>
    intro s empty
    refine ⟨fun k r taken => ?record, fun untaken => ?noRecord⟩
    case record => rw [step_of_empty empty, State.idle_of_record taken]
    case noRecord =>
      have noRecord := Link.takeable_eq_none untaken
      rw [step_of_empty empty]
      refine ⟨fun request => ?_, fun request boundary band => ?_, fun request rests day ms => ?_⟩
      · rw [State.idle_of_request noRecord request]
      · rw [State.idle_of_boundary noRecord request (State.boundaryWaits_iff.mpr ⟨boundary, band⟩)]
      · rw [State.idle_of_rest noRecord request (mt State.boundaryWaits_iff.mp rests), State.tick_of_empty empty,
          Clock.advance_one day ms]
  case expiries =>
    intro s own come now
    have hOwn : own = Timer.command := rfl
    have hCome : come = (· ∈ s.dueCommands) := rfl
    have hNow : now = s.timeCome := rfl
    clear_value own come now
    subst hOwn hCome hNow
    have timer (n : Line) (t : Timer) :
        t.command n ∈ s.dueCommands ↔ ∃ d, (t, d) ∈ (s.chan n).timers ∧ d ≤ s.timebase :=
      State.mem_dueCommands_timer
    have other {c : Instr} (h : expiringTimer c = none) : c ∈ s.dueCommands ↔ s.otherExpiryCome c :=
      State.mem_dueCommands_other h
    refine ⟨timer, fun n => ?pulse, fun job i => ?attempt, ?read, ?boundary, ?hold, ?standby, ?sending,
      fun c has => ?nothingElse, fun n t apart first last => ?order⟩
    case pulse => exact other rfl
    case attempt => exact (other rfl).trans State.timeCome_attemptTime
    case read => exact other rfl
    case boundary => exact other rfl
    case hold => exact other rfl
    case standby => exact other rfl
    case sending => exact other rfl
    case nothingElse =>
      rcases State.mem_dueCommands.mp has with ⟨n, t, d, -, rfl, -⟩ | come
      · exact .inl ⟨n, t, rfl⟩
      · rcases State.otherExpiryCome_iff.mp come with
          ⟨h, -⟩ | ⟨h, -⟩ | ⟨n, h, -⟩ | ⟨job, i, h, -⟩ | ⟨h, -⟩ | ⟨h, -⟩ | ⟨h, -⟩
        · exact .inr (.inr (.inr (.inl h)))
        · exact .inr (.inr (.inr (.inr (.inl h))))
        · exact .inr (.inl ⟨n, h⟩)
        · exact .inr (.inr (.inl ⟨job, i, h⟩))
        · exact .inr (.inr (.inr (.inr (.inr (.inl h)))))
        · exact .inr (.inr (.inr (.inr (.inr (.inr (.inl h))))))
        · exact .inr (.inr (.inr (.inr (.inr (.inr (.inr h))))))
    case order =>
      exact State.keepalive_last apart ((timer n t).mp first) ((timer n .keepalive).mp last)

end Sys2Proof.Proofs
end

section
/-! PROOFS. ChargeRules.lean: numbers of four bytes and lists read as they were laid out (R207, R209), a record
refused before the part is ready or for its body (R196), and the band found again (R96, R156, R157). -/

namespace Sys2Proof.Machine

/-! ## Fields read as they were laid out -/

@[simp] theorem get4_num4 {n : Nat} (h : n < 4294967296) (r : List Byte) : get4 (num4 n ++ r) = some (n, r) := by
  have bytes : ((n / 65536 / 256 % 2 ^ 8 * 256 + n / 65536 % 2 ^ 8) * 256 + n % 65536 / 256 % 2 ^ 8) * 256
      + n % 65536 % 2 ^ 8 = n := by omega
  simp only [num4, num2, List.cons_append, List.nil_append, get4, BitVec.toNat_ofNat, bytes]

theorem get4_num4_end {n : Nat} (h : n < 4294967296) : get4 (num4 n) = some (n, []) := by
  simpa using get4_num4 h []

/-- A list laid out behind its count is read back whole. -/
theorem getList_flatMap {α : Type} {item : List Byte → Option (α × List Byte)} {lay : α → List Byte} {xs : List α}
    (few : xs.length < 256) (reads : ∀ x ∈ xs, ∀ r, item (lay x ++ r) = some (x, r)) :
    getList item (num1 xs.length ++ xs.flatMap lay) = some (xs, []) := by
  have items := getItems_flatMap reads []
  rw [List.append_nil] at items
  simp only [getList, get1_num1 few, items]

/-! ## Refusals (R196) -/

section
variable {s : State} {k : RecordKind} {r : LinkRecord}

/-- A record command's event, from what the record does to the state that has taken it. -/
theorem next_record_of_takes (h : Takes s k r) {f : LinkRecord → State → State} {u : State}
    (effect : f r (s.setLink s.link.take) = u) :
    (.next (s.record k f) : Host.Outcome State Fault Refusal) = .next (u.finish s.disp.flags) := by
  rw [State.record_of_takes h, effect]

theorem next_record_of_not_ready (h : AtHead s k r) (needs : k.needsReady = true) (early : s.loader.ready = false)
    (f : LinkRecord → State → State) :
    (.next (s.record k f) : Host.Outcome State Fault Refusal)
      = .next ((s.refusedWith r .notReady).finish s.disp.flags) := by
  have refuses : s.takeOldest r f = s.refusedWith r .notReady := by
    rw [State.takeOldest, h.kind, if_pos (by simp [needs, early])]
    rfl
  rw [State.record_of_atHead h, refuses]

theorem State.parsed_none {α : Type} {p : Option α} (h : p = none) (f : α → State) :
    s.parsed r p f = s.refuse r .badFormat := by
  rw [h, State.parsed]

end

/-! ## The band found again (R96, R156, R157) -/

section
variable {s : State}

theorem Charge.scheduled_eq_get (c : Charge) {dt : Fin 3} {k : Nat} {slot : Fin 144} (h : slot.val = k + 48 * dt.val) :
    c.scheduled dt k = c.schedule.get slot := by
  have place : dt.val * 48 + k = slot.val := by omega
  simp [Charge.scheduled, place, Vector.get]

theorem dayType_val (day : Nat) (holiday : Bool) :
    (dayType day holiday).val = if day = 0 ∨ holiday = true then 2 else if day = 6 then 1 else 0 := by
  cases holiday with
  | true => exact (if_pos (.inr rfl)).symm
  | false =>
    by_cases sunday : day = 0
    · exact (congrArg Fin.val (if_pos sunday)).trans (if_pos (.inl sunday)).symm
    · have saturday : dayType day false = if day = 6 then 1 else 0 := if_neg sunday
      rw [saturday, if_neg (not_or.mpr ⟨sunday, Bool.false_ne_true⟩)]
      split <;> rfl

/-- R157: with the clock set, the band is that of the slot of its moment. -/
theorem State.findBand_of_set (set : s.flag 7 = true) {slot : Fin 144}
    (h : slot.val = s.charge.clock.ms / 1800000
      + 48 * (if s.charge.clock.day = 0 ∨ s.flag 15 = true then 2 else if s.charge.clock.day = 6 then 1 else 0)) :
    s.findBand = s.charge.schedule.get slot := by
  rw [← dayType_val] at h
  exact (if_pos set).trans (s.charge.scheduled_eq_get h)

/-- R96, R157: the band in force after it was found again, and its flag among the four. -/
theorem State.refindBand_flags (s : State) : s.refindBand = { s with
    charge := { s.charge with band := s.findBand }
    disp := { s.disp with flags := if s.findBand = s.charge.band then s.disp.flags
      else (s.disp.flags &&& 0xFFF0#16) ||| (1#16 <<< s.findBand.val) } } := by
  by_cases same : s.findBand = s.charge.band
  · simp [State.refindBand, same]
  · simp only [State.refindBand, if_neg same]
    rfl

end

end Sys2Proof.Machine
end

section
/-! PROOFS. ClockSet.lean: the statement about the clock's record (R155). -/

namespace Sys2Proof.Machine

section
variable {s : State} {r : LinkRecord} {day ms : Nat}

theorem parseClockSet_body (hd : day < 256) (hm : ms < 4294967296) :
    parseClockSet (num1 day ++ num4 ms) = some (day, ms) := by
  simp only [parseClockSet, get1_num1 hd, get4_num4_end hm, Option.bind_eq_bind, Option.bind_some, whole]

/-- A body of other than five bytes does not parse. -/
theorem parseClockSet_of_length {b : List Byte} (h : b.length ≠ 5) : parseClockSet b = none :=
  match b with
  | [] | [_] | [_, _] | [_, _, _] | [_, _, _, _] => rfl
  | [_, _, _, _, _] => absurd rfl h
  | _ :: _ :: _ :: _ :: _ :: _ :: _ => rfl

theorem recClockSet_badValue (parses : parseClockSet r.body = some (day, ms)) (bad : 6 < day ∨ 86399999 < ms) :
    recClockSet r s = s.refuse r .badValue := by
  rw [recClockSet, State.parsed_some parses, if_neg (by simp only [Config.dayMs]; omega)]

theorem recClockSet_set (parses : parseClockSet r.body = some (day, ms)) (hd : day ≤ 6) (hm : ms ≤ 86399999) :
    recClockSet r s = (s.setClock day ms).replyOk r (num1 (s.setClock day ms).charge.band.val) := by
  rw [recClockSet, State.parsed_some parses, if_pos (by simp only [Config.dayMs]; omega)]
  rfl

/-- R155: the clock and CLOCK_SET, with the band of the new moment. -/
theorem State.setClock_eq {slot : Fin 144}
    (h : slot.val = ms / 1800000 + 48 * (if day = 0 ∨ s.flag 15 = true then 2 else if day = 6 then 1 else 0)) :
    s.setClock day ms = { s with
      charge := { s.charge with clock := ⟨day, ms⟩, band := s.charge.schedule.get slot }
      disp := { s.disp with flags :=
        if s.charge.schedule.get slot = s.charge.band then s.disp.flags ||| 0x0080#16
        else ((s.disp.flags ||| 0x0080#16) &&& 0xFFF0#16) ||| (1#16 <<< (s.charge.schedule.get slot).val) } } := by
  let t : State := { s with
    charge := { s.charge with clock := ⟨day, ms⟩ }, disp := { s.disp with flags := s.disp.flags ||| 0x0080#16 } }
  have set : t.flag 7 = true := by simp [t, State.flag]
  have holiday : t.flag 15 = s.flag 15 := by simp [t, State.flag]
  have band : t.findBand = s.charge.schedule.get slot := State.findBand_of_set set (by rw [holiday]; exact h)
  have found : s.setClock day ms = t.refindBand := rfl
  rw [found, State.refindBand_flags, band]

end

end Sys2Proof.Machine

namespace Sys2Proof.Proofs
open Sys2Proof.Machine

/-- Settles O20: the refusals come in the order of R196, and the band in force after the record is the one found for the
new moment (`State.setClock_eq`). -/
theorem clockSet : Obligations.ClockSet := by
  refine ⟨fun s r head => ⟨fun early => ?early, fun ready length => ?format⟩,
    fun s r day ms takes hd hm body => ?parsed⟩
  case early => exact next_record_of_not_ready head rfl early recClockSet
  case format =>
    have fails : parseClockSet r.body = none := parseClockSet_of_length length
    exact next_record_of_takes ⟨head, ready⟩ (State.parsed_none fails _)
  case parsed =>
    have parses : parseClockSet r.body = some (day, ms) := body ▸ parseClockSet_body hd hm
    refine ⟨fun bad => next_record_of_takes takes (recClockSet_badValue parses bad), fun dayIn msIn slot at_ => ?set⟩
    case set =>
      have set := recClockSet_set (s := s.setLink s.link.take) parses dayIn msIn
      rw [State.setClock_eq (s := s.setLink s.link.take) at_] at set
      exact next_record_of_takes takes set

end Sys2Proof.Proofs
end

section
/-! PROOFS. TableLoads.lean: the tariff after a list of entries and the schedule after a list of bands (R156, R159), and
the statement about the two records. -/

namespace Sys2Proof.Machine

/-! ## The tariff (R159) -/

/-- R159: every field of the entry is within its range. -/
def TariffItem.InRange (i : TariffItem) : Prop := i.cls ≤ 7 ∧ i.band ≤ 3 ∧ 1 ≤ i.period ∧ i.period ≤ 36000

/-- An entry of a TARIFF LOAD, laid out. -/
def TariffItem.bytes (i : TariffItem) : List Byte :=
  num1 i.cls ++ num1 i.band ++ num2 i.connect ++ num2 i.pulse ++ num2 i.period

section
variable {i : TariffItem} {items : List TariffItem} {es : List (Fin 8 × Fin 4 × TariffEntry)}

theorem getTariffItem_bytes (cls : i.cls < 256) (band : i.band < 256) (connect : i.connect < 65536)
    (pulse : i.pulse < 65536) (period : i.period < 65536) (rest : List Byte) :
    getTariffItem (i.bytes ++ rest) = some (i, rest) := by
  simp only [getTariffItem, TariffItem.bytes, List.append_assoc, get1_num1 cls, get1_num1 band, get2_num2 connect,
    get2_num2 pulse, get2_num2 period, Option.bind_eq_bind, Option.bind_some]

theorem TariffItem.check_eq_none (h : ¬ i.InRange) : i.check = none := dif_neg h

theorem TariffItem.check_of_inRange (h : i.InRange) : ∃ (cls : Fin 8) (band : Fin 4),
    i.check = some (cls, band, ⟨i.connect, i.pulse, i.period⟩) ∧ cls.val = i.cls ∧ band.val = i.band :=
  ⟨_, _, dif_pos h, rfl, rfl⟩

theorem mapM_check_of_bad (bad : ∃ i ∈ items, ¬ i.InRange) : items.mapM TariffItem.check = none := by
  obtain ⟨i, member, out⟩ := bad
  obtain ⟨before, after, rfl⟩ := List.append_of_mem member
  simp [TariffItem.check_eq_none out]

theorem Charge.entry_setEntry (c : Charge) (cls k : Fin 8) (band b : Fin 4) (e : TariffEntry) :
    (c.setEntry cls band e).entry k b = if cls = k ∧ band = b then e else c.entry k b := by
  have place : 4 * cls.val + band.val = 4 * k.val + b.val ↔ cls = k ∧ band = b := by
    rw [Fin.ext_iff, Fin.ext_iff]
    omega
  refine (Vector.getElem_set (xs := c.tariff) (by omega) (by omega)).trans ?_
  simp only [place]
  rfl

/-- The tariff after the entries have been put, one after another. -/
def Charge.putEntries (c : Charge) (es : List (Fin 8 × Fin 4 × TariffEntry)) : Charge :=
  es.foldl (fun c e => c.setEntry e.1 e.2.1 e.2.2) c

theorem Charge.putEntries_eq (c : Charge) : c.putEntries es = { c with tariff := (c.putEntries es).tariff } := by
  induction es generalizing c with
  | nil => rfl
  | cons e es ih => exact ih _

/-- R159: with every entry in its range the last entry of a class and band stands. -/
theorem mapM_check_of_inRange (good : ∀ i ∈ items, i.InRange) : ∃ es, items.mapM TariffItem.check = some es
    ∧ ∀ (c : Charge) (k : Fin 8) (b : Fin 4), (c.putEntries es).entry k b =
      match items.reverse.find? (fun i => i.cls == k.val && i.band == b.val) with
      | some i => ⟨i.connect, i.pulse, i.period⟩
      | none => c.entry k b := by
  induction items with
  | nil => exact ⟨[], rfl, fun _ _ _ => rfl⟩
  | cons i items ih =>
    obtain ⟨cls, band, checks, hcls, hband⟩ := TariffItem.check_of_inRange (good i (by simp))
    obtain ⟨es, rest, stands⟩ := ih fun x member => good x (by simp [member])
    refine ⟨(cls, band, ⟨i.connect, i.pulse, i.period⟩) :: es, by simp [checks, rest], fun c k b => ?_⟩
    refine (stands _ k b).trans ?_
    rw [List.reverse_cons, List.find?_append]
    cases items.reverse.find? (fun i => i.cls == k.val && i.band == b.val) with
    | some later => rfl
    | none =>
      have named : (i.cls == k.val && i.band == b.val) = decide (cls = k ∧ band = b) := by
        simp only [← hcls, ← hband, Fin.ext_iff, Bool.decide_and]
        rfl
      rw [Charge.entry_setEntry]
      by_cases here : cls = k ∧ band = b <;> simp [here, named]

end

section
variable {s : State} {r : LinkRecord} {items : List TariffItem} {es : List (Fin 8 × Fin 4 × TariffEntry)}

theorem recTariffLoad_badFormat (parses : parseTariffLoad r.body = some items)
    (count : items.length < 1 ∨ 32 < items.length) : recTariffLoad r s = s.refuse r .badFormat := by
  rw [recTariffLoad, State.parsed_some parses, if_pos count]

theorem recTariffLoad_badValue (parses : parseTariffLoad r.body = some items)
    (count : ¬ (items.length < 1 ∨ 32 < items.length)) (bad : items.mapM TariffItem.check = none) :
    recTariffLoad r s = s.refuse r .badValue := by
  rw [recTariffLoad, State.parsed_some parses, if_neg count, bad]

theorem recTariffLoad_loaded (parses : parseTariffLoad r.body = some items)
    (count : ¬ (items.length < 1 ∨ 32 < items.length)) (good : items.mapM TariffItem.check = some es) :
    recTariffLoad r s = (s.setCharge (s.charge.putEntries es)).replyOk r (num1 items.length) := by
  rw [recTariffLoad, State.parsed_some parses, if_neg count, good]
  rfl

end

/-! ## The band schedule (R156) -/

section
variable {s : State} {r : LinkRecord} {day first : Nat} {bands : List (BitVec 8)}

theorem parseBandLoad_body (hd : day < 256) (hf : first < 256) (few : bands.length < 256) :
    parseBandLoad (num1 day ++ num1 first ++ num1 bands.length ++ bands)
      = some (day, first, bands.map BitVec.toNat) := by
  have laid : (bands.map BitVec.toNat).flatMap num1 = bands := by simp [List.flatMap_map, num1]
  have reads : ∀ x ∈ bands.map BitVec.toNat, ∀ rest, get1 (num1 x ++ rest) = some (x, rest) := by
    intro x member rest
    obtain ⟨b, -, rfl⟩ := List.mem_map.mp member
    exact get1_num1 b.isLt rest
  have list := getList_flatMap (lay := num1) (by simpa using few) reads
  rw [laid, List.length_map] at list
  simp only [parseBandLoad, List.append_assoc, get1_num1 hd, get1_num1 hf, list, Option.bind_eq_bind, Option.bind_some,
    whole]

/-- R156: the schedule after a BAND LOAD, slot by slot; nothing else of the Charge Unit changes. -/
theorem Charge.loadBands_slots (c : Charge) (small : ∀ b ∈ bands, b.toNat ≤ 3) :
    ∃ schedule : Vector (Fin 4) 144,
      c.loadBands day first (bands.map BitVec.toNat) = { c with schedule := schedule }
      ∧ ∀ k : Fin 144, (schedule.get k).val =
        if 48 * day + first ≤ k.val ∧ k.val < 48 * day + first + bands.length
        then (bands.getD (k.val - (48 * day + first)) 0).toNat else (c.schedule.get k).val := by
  refine ⟨_, rfl, fun k => ?_⟩
  have named : (day * 48 + first ≤ k.val ∧ k.val - (day * 48 + first) < (bands.map BitVec.toNat).length)
      ↔ (48 * day + first ≤ k.val ∧ k.val < 48 * day + first + bands.length) := by
    rw [List.length_map]
    omega
  have slotOf (f : Fin 144 → Fin 4) : (Vector.ofFn f).get k = f k := Vector.getElem_ofFn k.isLt
  simp only [slotOf, named]
  split
  · next slot =>
    have place : k.val - (48 * day + first) < bands.length := by omega
    have low := small _ (List.getElem_mem place)
    have value : bands[k.val - (48 * day + first)].toNat % 4 = bands[k.val - (48 * day + first)].toNat :=
      Nat.mod_eq_of_lt (by omega)
    simp [Nat.mul_comm day, place, value]
  · rfl

theorem recBandLoad_badFormat (parses : parseBandLoad r.body = some (day, first, bands.map BitVec.toNat))
    (count : bands.length < 1 ∨ 48 < bands.length) : recBandLoad r s = s.refuse r .badFormat := by
  rw [recBandLoad, State.parsed_some parses]
  exact if_pos (by simpa using count)

theorem recBandLoad_badValue (parses : parseBandLoad r.body = some (day, first, bands.map BitVec.toNat))
    (count : ¬ (bands.length < 1 ∨ 48 < bands.length))
    (bad : 2 < day ∨ 47 < first ∨ 48 < first + bands.length ∨ ∃ b ∈ bands, 3 < b.toNat) :
    recBandLoad r s = s.refuse r .badValue := by
  rw [recBandLoad, State.parsed_some parses]
  refine (if_neg (by simpa using count)).trans (if_neg fun ⟨hd, hf, fits, small⟩ => ?_)
  rw [List.length_map] at fits
  obtain h | h | h | ⟨b, member, h⟩ := bad
  · omega
  · omega
  · omega
  · have low : b.toNat ≤ 3 := by simpa using List.all_eq_true.mp small _ (List.mem_map_of_mem member)
    omega

theorem recBandLoad_loaded (parses : parseBandLoad r.body = some (day, first, bands.map BitVec.toNat))
    (count : ¬ (bands.length < 1 ∨ 48 < bands.length)) (hd : day ≤ 2) (hf : first ≤ 47)
    (fits : first + bands.length ≤ 48) (small : ∀ b ∈ bands, b.toNat ≤ 3) :
    recBandLoad r s =
      let t := (s.setCharge (s.charge.loadBands day first (bands.map BitVec.toNat))).refindBand
      t.replyOk r (num1 t.charge.band.val) := by
  rw [recBandLoad, State.parsed_some parses]
  exact (if_neg (by simpa using count)).trans (if_pos ⟨hd, hf, by simpa using fits, by simpa using small⟩)

end

end Sys2Proof.Machine

namespace Sys2Proof.Proofs
open Sys2Proof.Machine

/-- Settles O21: TARIFF LOAD puts the entries one after another (`mapM_check_of_inRange`); BAND LOAD writes the named
slots (`Charge.loadBands_slots`), and the band is then found again (`State.refindBand_flags`). -/
theorem tariffAndBandLoad : Obligations.TariffAndBandLoad := by
  refine ⟨?tariff, ?bands⟩
  case tariff =>
    intro s r items takes few bytes body inRange
    have parses : parseTariffLoad r.body = some items := by
      have list := getList_flatMap (item := getTariffItem) (lay := TariffItem.bytes) few fun i member rest =>
        let ⟨cls, band, connect, pulse, period⟩ := bytes i member
        getTariffItem_bytes cls band connect pulse period rest
      rw [parseTariffLoad, body]
      exact congrArg whole list
    refine ⟨fun count => ?_, fun low high bad => ?_, fun low high good => ?_⟩
    · refine next_record_of_takes takes (recTariffLoad_badFormat parses (count.imp_left ?_))
      rintro rfl
      exact Nat.zero_lt_one
    · exact next_record_of_takes takes (recTariffLoad_badValue parses (by omega) (mapM_check_of_bad bad))
    · obtain ⟨es, checks, stands⟩ := mapM_check_of_inRange good
      have loaded := recTariffLoad_loaded (s := s.setLink s.link.take) parses (by omega) checks
      rw [Charge.putEntries_eq] at loaded
      refine ⟨(s.charge.putEntries es).tariff, next_record_of_takes takes loaded, fun c b => ?_⟩
      rw [← Charge.putEntries_eq]
      exact stands s.charge c b
  case bands =>
    intro s r day first bands takes hd hf few body
    have parses : parseBandLoad r.body = some (day, first, bands.map BitVec.toNat) :=
      body ▸ parseBandLoad_body hd hf few
    refine ⟨fun count => ?_, fun low high bad => ?_, fun low hd fits small => ?_⟩
    · refine next_record_of_takes takes (recBandLoad_badFormat parses (count.imp_left ?_))
      rintro rfl
      exact Nat.zero_lt_one
    · exact next_record_of_takes takes (recBandLoad_badValue parses (by omega) bad)
    · obtain ⟨schedule, loads, slots⟩ := s.charge.loadBands_slots (day := day) (first := first) small
      have loaded := recBandLoad_loaded (s := s.setLink s.link.take) parses (by omega) hd (by omega) fits small
      rw [State.setLink_charge, loads, State.refindBand_flags] at loaded
      exact ⟨schedule, slots, next_record_of_takes takes loaded⟩

end Sys2Proof.Proofs
end

section
/-! PROOFS. BudgetGate.lean: the budget gate (R172) and the accounts' destinations it holds (R79), with the
statement about them. -/

namespace Sys2Proof.Machine

section
variable {s : State} {a : Fin 64}

/-- R172. -/
def State.gateOpen (s : State) (a : Fin 64) (cls : Fin 8) : Prop :=
  (s.account a).state = .opened ∧ ((s.account a).budget = 0
    ∨ (s.account a).spent + (s.charge.entry cls s.charge.band).connect + (s.charge.entry cls s.charge.band).pulse
        ≤ (s.account a).budget)

theorem State.gate_iff {cls : Fin 8} : s.gate a cls = true ↔ s.gateOpen a cls := by
  simp [State.gate, State.gateOpen]

/-- R79: whether a destination is HELD_ACCOUNT with a route that passes the gate now. -/
def State.passesNow (s : State) (a : Fin 64) (d : Dest) : Bool :=
  d.state == .heldAccount && (match d.route with | some r => s.gate a r.cls | none => false)

theorem State.passesNow_iff {d : Dest} :
    s.passesNow a d = true ↔ d.state = .heldAccount ∧ ∃ t, d.route = some t ∧ s.gateOpen a t.cls := by
  cases h : d.route <;> simp [State.passesNow, h, State.gate_iff]

/-- R79: a destination after the account's gate was tested for it. -/
def State.retestDest (s : State) (a : Fin 64) (d : Dest) : Dest :=
  if s.passesNow a d then { d with state := .pending } else d

/-- R79: a job after the account's gate was tested for its destinations. -/
def State.retestJob (s : State) (a : Fin 64) (j : Job) : Job :=
  if j.account = a then { j with dests := j.dests.map (s.retestDest a) } else j

theorem State.reevaluateHeld_eq (s : State) (a : Fin 64) : s.reevaluateHeld a = { s with
    jobs := { s.jobs with jobs := s.jobs.jobs.map (s.retestJob a) }
    disp := { s.disp with passRequest := true } } := rfl

end

end Sys2Proof.Machine

namespace Sys2Proof.Proofs
open Sys2Proof.Machine

/-- Settles O27: the gate is `State.gate_iff`, and a re-evaluation tests each destination of each job of the account
(`State.retestJob`, `State.passesNow_iff`). -/
theorem budgetGate : Obligations.BudgetGate := by
  intro s a
  refine ⟨fun cls => State.gate_iff, s.jobs.jobs.map (s.retestJob a), s.reevaluateHeld_eq a, List.length_map ..,
    fun k j j' was now => ?job⟩
  case job =>
    have after : j' = s.retestJob a j := by
      rw [List.getElem?_map, was, Option.map_some, Option.some.injEq] at now
      exact now.symm
    subst after
    refine ⟨fun other => if_neg other, fun same => ?dests⟩
    case dests =>
      rw [State.retestJob, if_pos same]
      refine ⟨rfl, List.length_map .., fun i d d' wasDest nowDest => ?dest⟩
      case dest =>
        have after : d' = s.retestDest a d := by
          rw [List.getElem?_map, wasDest, Option.map_some, Option.some.injEq] at nowDest
          exact nowDest.symm
        subst after
        exact ⟨fun passes => if_pos (State.passesNow_iff.mpr passes),
          fun stays => if_neg (mt State.passesNow_iff.mp stays)⟩

end Sys2Proof.Proofs
end

section
/-! PROOFS. AccountRecords.lean: an account written and read back, the tests every account record makes (R168), a budget
changed (R170), and the statement about the account records. -/

namespace Sys2Proof.Machine

/-! ## An account written -/

section
variable {s : State} {id : Fin 64}

@[simp] theorem State.account_setAccount_same (s : State) (id : Fin 64) (x : Account) :
    (s.setAccount id x).account id = x := Vector.getElem_set_self ..

@[simp] theorem State.setAccount_setAccount (s : State) (id : Fin 64) (x y : Account) :
    (s.setAccount id x).setAccount id y = s.setAccount id y := by
  simp [State.setAccount, State.setCharge]

/-! ## The tests of an account record (R168) -/

variable {r : LinkRecord} {a b : Nat}

theorem parseOne_num1 (ha : a < 256) : parseOne (num1 a) = some a := by
  have reads := get1_num1 ha []
  rw [List.append_nil] at reads
  rw [parseOne, reads, whole]

theorem parseAccountBudget_body (ha : a < 256) (hb : b < 4294967296) :
    parseAccountBudget (num1 a ++ num4 b) = some (a, b) := by
  simp only [parseAccountBudget, get1_num1 ha, get4_num4_end hb, Option.bind_eq_bind, Option.bind_some, whole]

section
variable {k : Fin 64 → Account → State}

theorem State.onAccount_of_gt (big : 63 < a) : s.onAccount r a k = s.refuse r .badValue := dif_neg (by omega)

theorem State.onAccount_val : s.onAccount r id.val k = k id (s.account id) := dif_pos id.isLt

theorem State.onUsed_of_gt (big : 63 < a) : s.onUsed r a k = s.refuse r .badValue := State.onAccount_of_gt big

theorem State.onUsed_of_free (free : (s.account id).state = .free) : s.onUsed r id.val k = s.refuse r .noSuch :=
  State.onAccount_val.trans (if_pos free)

theorem State.onUsed_of_used (used : (s.account id).state ≠ .free) : s.onUsed r id.val k = k id (s.account id) :=
  State.onAccount_val.trans (if_neg used)

end

/-! ## A change of the budget (R167, R170) -/

theorem Account.reached_iff {x : Account} : x.reached = true ↔ x.budget ≠ 0 ∧ x.budget ≤ x.spent := by
  simp [Account.reached]

theorem State.answeredCalls_eq (s : State) (id : Fin 64) : s.answeredCalls id = (allLines.filter (fun n =>
    Decidable.decide (∃ m, s.charge.meters.get n = some m ∧ m.account = id))).length := by
  rw [State.answeredCalls]
  congr 2
  funext n
  cases s.charge.meters.get n with
  | none => simp
  | some m => simp [Bool.beq_eq_decide_eq]

theorem State.accountCalls_eq (s : State) (id : Fin 64) : s.accountCalls id = (allLines.filter (fun n =>
    Decidable.decide (∃ c, s.outCall n = some c ∧ c.account = id))).length := by
  rw [State.accountCalls]
  congr 2
  funext n
  cases s.outCall n with
  | none => simp
  | some c => simp [Bool.beq_eq_decide_eq]

/-- R167: where the test holds and at limit was no. -/
theorem State.markLimit_of_reached {x : Account} (hx : s.account id = x) (full : x.reached = true)
    (limit : x.atLimit = false) : s.markLimit id = (s.setAccount id { x with atLimit := true }).stage
      (.accountLimit id.val x.spent x.budget (s.answeredCalls id)) := by
  rw [State.markLimit, hx]
  exact if_pos (by rw [full, limit]; rfl)

/-- The account with its budget and at limit as R170 leaves them. -/
def Account.budgeted (x : Account) (b : Nat) (limit : Bool) : Account := { x with budget := b, atLimit := limit }

theorem State.changeBudget_below (below : ¬ (b ≠ 0 ∧ b ≤ (s.account id).spent)) :
    s.changeBudget id b = s.setAccount id ((s.account id).budgeted b false) := by
  have short : ¬ ({ s.account id with budget := b } : Account).reached = true := mt Account.reached_iff.mp below
  rw [State.changeBudget, if_neg short, State.setAccount_setAccount]
  rfl

theorem State.changeBudget_stays (reached : b ≠ 0 ∧ b ≤ (s.account id).spent)
    (limit : (s.account id).atLimit = true) :
    s.changeBudget id b = s.setAccount id ((s.account id).budgeted b true) := by
  have full : ({ s.account id with budget := b } : Account).reached = true := Account.reached_iff.mpr reached
  rw [State.changeBudget, if_pos full, if_pos limit, Account.budgeted, ← limit]

theorem State.changeBudget_reached (reached : b ≠ 0 ∧ b ≤ (s.account id).spent)
    (limit : (s.account id).atLimit = false) :
    s.changeBudget id b = ((s.setAccount id ((s.account id).budgeted b true)).stage
      (.accountLimit id.val (s.account id).spent b (s.answeredCalls id))).reportLimit id := by
  have full : ({ s.account id with budget := b } : Account).reached = true := Account.reached_iff.mpr reached
  have marks := State.markLimit_of_reached (State.account_setAccount_same s id _) full limit
  rw [State.setAccount_setAccount] at marks
  exact (if_pos full).trans ((if_neg (by simp [limit])).trans (congrArg (State.reportLimit · id) marks))

/-! ## The records -/

section
variable {k : Fin 64 → Account → State}

/-- An account named by one byte alone, above 63. -/
theorem State.shortRecord_badValue (parses : parseOne r.body = some a) (big : 63 < a) :
    (s.parsed r (parseOne r.body) fun i => s.onUsed r i k) = s.refuse r .badValue :=
  (State.parsed_some parses _).trans (State.onUsed_of_gt big)

theorem State.shortRecord_noSuch (parses : parseOne r.body = some id.val) (free : (s.account id).state = .free) :
    (s.parsed r (parseOne r.body) fun i => s.onUsed r i k) = s.refuse r .noSuch :=
  (State.parsed_some parses _).trans (State.onUsed_of_free free)

theorem State.shortRecord_used (parses : parseOne r.body = some id.val) (used : (s.account id).state ≠ .free) :
    (s.parsed r (parseOne r.body) fun i => s.onUsed r i k) = k id (s.account id) :=
  (State.parsed_some parses _).trans (State.onUsed_of_used used)

end

theorem recAccountOpen_badValue (parses : parseAccountBudget r.body = some (a, b)) (big : 63 < a) :
    recAccountOpen r s = s.refuse r .badValue :=
  (State.parsed_some parses _).trans (State.onAccount_of_gt big)

theorem recAccountOpen_duplicate (parses : parseAccountBudget r.body = some (id.val, b))
    (used : (s.account id).state ≠ .free) : recAccountOpen r s = s.refuse r .duplicate :=
  (State.parsed_some parses _).trans (State.onAccount_val.trans (if_pos used))

theorem recAccountOpen_opened (parses : parseAccountBudget r.body = some (id.val, b))
    (free : (s.account id).state = .free) :
    recAccountOpen r s = (s.setAccount id ⟨.opened, b, 0, 0, false⟩).replyOk r [] :=
  (State.parsed_some parses _).trans (State.onAccount_val.trans (if_neg fun used => used free))

theorem recAccountSetBudget_badValue (parses : parseAccountBudget r.body = some (a, b)) (big : 63 < a) :
    recAccountSetBudget r s = s.refuse r .badValue :=
  (State.parsed_some parses _).trans (State.onUsed_of_gt big)

theorem recAccountSetBudget_noSuch (parses : parseAccountBudget r.body = some (id.val, b))
    (free : (s.account id).state = .free) : recAccountSetBudget r s = s.refuse r .noSuch :=
  (State.parsed_some parses _).trans (State.onUsed_of_free free)

theorem recAccountSetBudget_used (parses : parseAccountBudget r.body = some (id.val, b))
    (used : (s.account id).state ≠ .free) :
    recAccountSetBudget r s = ((s.changeBudget id b).reevaluateHeld id).replyOk r [] :=
  (State.parsed_some parses _).trans (State.onUsed_of_used used)

theorem recAccountClose_inUse (parses : parseOne r.body = some id.val) (used : (s.account id).state ≠ .free)
    (named : ∃ j ∈ s.jobs.jobs, j.account = id) : recAccountClose r s = s.refuse r .inUse :=
  (State.shortRecord_used parses used).trans (if_pos (by simpa using named))

theorem recAccountClose_closed (parses : parseOne r.body = some id.val) (used : (s.account id).state ≠ .free)
    (unnamed : ∀ j ∈ s.jobs.jobs, j.account ≠ id) :
    recAccountClose r s = (s.setAccount id ⟨.free, 0, 0, 0, false⟩).replyOk r [] :=
  (State.shortRecord_used parses used).trans (if_neg (by simpa using unnamed))

theorem recAccountRead_badValue (parses : parseOne r.body = some a) (big : 63 < a) :
    recAccountRead r s = s.refuse r .badValue :=
  (State.parsed_some parses _).trans (State.onAccount_of_gt big)

theorem recAccountRead_shown (parses : parseOne r.body = some id.val) :
    recAccountRead r s = s.replyOk r (num1 (s.account id).state.code ++ num4 (s.account id).budget
      ++ num4 (s.account id).spent ++ num4 (s.account id).calls ++ yesNo (s.account id).atLimit
      ++ num1 (s.accountCalls id)) :=
  (State.parsed_some parses _).trans State.onAccount_val

end

end Sys2Proof.Machine

namespace Sys2Proof.Proofs
open Sys2Proof.Machine

/-- Settles O26: every record tests the id and the account's state in R168's order (`State.onAccount_val`,
`State.onUsed_of_used` and those beside them); a new budget leaves the account as `State.changeBudget_below`,
`State.changeBudget_stays` or `State.changeBudget_reached` says. -/
theorem accountRecords : Obligations.AccountRecords := by
  refine ⟨?records, ?budget⟩
  case records =>
    intro s r a ha refused short
    have parsesOne (body : r.body = num1 a) : parseOne r.body = some a := body ▸ parseOne_num1 ha
    have parsesTwo {b : Nat} (hb : b < 4294967296) (body : r.body = num1 a ++ num4 b) :
        parseAccountBudget r.body = some (a, b) := body ▸ parseAccountBudget_body ha hb
    refine ⟨fun big => ?outside, fun id isId => ?inside⟩
    case outside =>
      refine ⟨fun b hb body => ⟨fun takes => ?opens, fun takes => ?sets⟩, ?_, ?_, ?_, ?_, fun ⟨takes, body⟩ => ?reads⟩
      case opens => exact next_record_of_takes takes (recAccountOpen_badValue (parsesTwo hb body) big)
      case sets => exact next_record_of_takes takes (recAccountSetBudget_badValue (parsesTwo hb body) big)
      case reads => exact next_record_of_takes takes (recAccountRead_badValue (parsesOne body) big)
      all_goals exact fun ⟨takes, body⟩ => next_record_of_takes takes (State.shortRecord_badValue (parsesOne body) big)
    case inside =>
      intro x put shown
      subst isId
      refine ⟨fun b hb takes body => ⟨fun used => ?_, fun free => ?_⟩, fun free => ?free, fun used => ?used, ?read⟩
      · exact next_record_of_takes takes (recAccountOpen_duplicate (parsesTwo hb body) used)
      · exact next_record_of_takes takes (recAccountOpen_opened (parsesTwo hb body) free)
      case free =>
        refine ⟨?_, ?_, ?_, ?_, fun b hb takes body => ?sets⟩
        case sets => exact next_record_of_takes takes (recAccountSetBudget_noSuch (parsesTwo hb body) free)
        all_goals exact fun ⟨takes, body⟩ => next_record_of_takes takes (State.shortRecord_noSuch (parsesOne body) free)
      case used =>
        intro held
        refine ⟨?_, ?_, ?_, fun ⟨takes, body⟩ => ⟨fun named => ?inUse, fun unnamed => ?closed⟩⟩
        case inUse => exact next_record_of_takes takes (recAccountClose_inUse (parsesOne body) used named)
        case closed => exact next_record_of_takes takes (recAccountClose_closed (parsesOne body) used unnamed)
        all_goals exact fun ⟨takes, body⟩ => next_record_of_takes takes (State.shortRecord_used (parsesOne body) used)
      case read =>
        intro ⟨takes, body⟩
        have reads := recAccountRead_shown (s := s.setLink s.link.take) (parsesOne body)
        rw [State.accountCalls_eq] at reads
        exact next_record_of_takes takes reads
  case budget =>
    intro s r id b takes hb body used x reached put calls
    let t := s.setLink s.link.take
    have parses : parseAccountBudget r.body = some (id.val, b) := body ▸ parseAccountBudget_body (by omega) hb
    have changes := recAccountSetBudget_used (s := t) parses used
    refine ⟨fun below => ?_, fun full limit => ?_, fun full limit => ?_⟩
    · rw [State.changeBudget_below (s := t) below] at changes
      exact next_record_of_takes takes changes
    · rw [State.changeBudget_stays (s := t) full limit] at changes
      exact next_record_of_takes takes changes
    · rw [State.changeBudget_reached (s := t) full limit, State.answeredCalls_eq] at changes
      exact next_record_of_takes takes changes

end Sys2Proof.Proofs
end

section
/-! PROOFS. PrintRules.lean: what the operations of the Print Controller do: a page queued and routed (R178, R179), the
page that begins (R180, R181, R189), faults (R184), and the engine's events (R183, R186 to R189). -/

namespace Sys2Proof.Machine

/-- An event of the part, from what its effect makes of the state. -/
theorem next_event_of_effect {i : Instr} {s u : State} {f : State → State} (runs : exec i s = .next (s.event f))
    (effect : f s = u) : exec i s = .next (u.finish s.disp.flags) := effect ▸ runs

section
variable {s : State} {p : Page} {e : PrintEntry} {es : List PrintEntry}

/-! ## Routing (R178, R179) -/

theorem pageReceived_of_line {n : Line} (h : p.line = some n) (queued full : Bool) :
    pageReceived p queued full = .pageReceived p.id n p.state p.width p.res p.lineCount ((p.chain.map (·.used)).sum)
      p.chain.length p.tag queued full := by
  rw [pageReceived, h, Option.getD_some, Page.codedBits]

theorem State.routePage_forward (h : s.settings.routing = .forward) :
    s.routePage p = (s.addHolder p.id .forward).stage (pageReceived p false false) := by
  simp only [State.routePage, h]

/-- R178: with the queue full a page to be printed goes to the host alone. -/
theorem State.routePage_full (h : s.settings.routing ≠ .forward) (full : 64 ≤ s.printer.queue.length) :
    s.routePage p = (s.addHolder p.id .forward).stage (pageReceived p false true) := by
  have noRoom : ¬ s.printer.queue.length < Config.printEntries := Nat.not_lt.mpr full
  cases hr : s.settings.routing with
  | forward => exact absurd hr h
  | print | both => simp only [State.routePage, hr, if_neg noRoom]

theorem State.routePage_print (h : s.settings.routing = .print) (room : s.printer.queue.length < 64) :
    s.routePage p = (s.queuePrint p.id).tryBegin := by
  simp only [State.routePage, h, if_pos (show s.printer.queue.length < Config.printEntries from room)]

theorem State.routePage_both (h : s.settings.routing = .both) (room : s.printer.queue.length < 64) :
    s.routePage p
      = (((s.queuePrint p.id).addHolder p.id .forward).stage (pageReceived p true false)).tryBegin := by
  simp only [State.routePage, h, if_pos (show s.printer.queue.length < Config.printEntries from room)]

/-! ## Beginning (R180, R181, R189) -/

/-- R180, R188: a page waits that no pause and no missing paper keeps back. -/
def Printer.Waits (q : Printer) : Prop := q.queue ≠ [] ∧ q.paused = false ∧ q.paperOut = false

theorem Printer.canBegin_iff {q : Printer} (free : q.state.inProgress = false) : q.canBegin = true ↔ q.Waits := by
  simp [Printer.canBegin, Printer.Waits, free, and_assoc]

/-- R181: the printer with its head page begun: the limit latched at a reprint count of 0, the decoder at the first
line, the page start handed. -/
def Printer.begun (q : Printer) (e : PrintEntry) (es : List PrintEntry) (p : Page) (limit : Nat) : Printer :=
  { q with
    queue := (if e.reprints = 0 then { e with limit := some limit } else e) :: es, state := .printing
    decoder := some ⟨p.id, p.width, 0, [p.width], [p.width], 0, 0⟩
    linesHanded := 0, truncated := false, handed := some (.pageStart p.width p.res) }

theorem State.beginPrinting_of_head (head : s.printer.queue = e :: es) (page : s.findPage e.page = some p) :
    s.beginPrinting = { s with
      printer := s.printer.begun e es p s.settings.pageLimit
      outputs := s.outputs ++ [.engine (.hand (.pageStart p.width p.res))] } := by
  simp only [State.beginPrinting, head, page]
  rfl

theorem State.wakeEngine_of_low (low : s.printer.readyPin = false) : s.wakeEngine = { s with
    printer := { s.printer with state := .waking }, outputs := s.outputs ++ [.engine .wake] } :=
  if_neg (by simp [State.engine, State.emit, low])

/-- Log entry 16: with READY high the page begins in the event that sends WAKE. -/
theorem State.wakeEngine_of_high (high : s.printer.readyPin = true) : s.wakeEngine = State.beginPrinting { s with
    printer := { s.printer with state := .waking }, outputs := s.outputs ++ [.engine .wake] } :=
  if_pos (by simp [State.engine, State.emit, high])

/-- R181: in IDLE and WAKING the head page begins where it waits and READY is high. -/
theorem State.tryBegin_awake (h : s.printer.state = .idle ∨ s.printer.state = .waking)
    (begins : s.printer.Waits ∧ s.printer.readyPin = true) : s.tryBegin = s.beginPrinting := by
  obtain ⟨waits, ready⟩ := begins
  rcases h with h | h
  all_goals
    have can := (Printer.canBegin_iff (by rw [h]; rfl)).mpr waits
    simp [State.tryBegin, h, can, ready]

theorem State.tryBegin_awake_not (h : s.printer.state = .idle ∨ s.printer.state = .waking)
    (stays : ¬ (s.printer.Waits ∧ s.printer.readyPin = true)) : s.tryBegin = s := by
  rcases h with h | h
  all_goals
    rw [← Printer.canBegin_iff (by rw [h]; rfl)] at stays
    simp [State.tryBegin, h, stays]

/-- R189: in STANDBY the engine is woken for a page that waits. -/
theorem State.tryBegin_standby (h : s.printer.state = .standby) (waits : s.printer.Waits) :
    s.tryBegin = s.wakeEngine := by
  have can := (Printer.canBegin_iff (by rw [h]; rfl)).mpr waits
  simp [State.tryBegin, h, can]

theorem State.tryBegin_standby_not (h : s.printer.state = .standby) (stays : ¬ s.printer.Waits) :
    s.tryBegin = s := by
  rw [← Printer.canBegin_iff (by rw [h]; rfl)] at stays
  simp [State.tryBegin, h, stays]

/-- R184: the reprint begins, paused or not. -/
theorem State.tryBegin_faulted (h : s.printer.state = .faulted) (ready : s.printer.readyPin = true)
    (paper : s.printer.paperOut = false) : s.tryBegin = s.beginPrinting := by
  simp [State.tryBegin, h, ready, paper]

theorem State.tryBegin_faulted_not (h : s.printer.state = .faulted)
    (stays : s.printer.readyPin = false ∨ s.printer.paperOut = true) : s.tryBegin = s := by
  rcases stays with low | out
  · simp [State.tryBegin, h, low]
  · simp [State.tryBegin, h, out]

/-- R180: a page that is being printed or held. -/
def Printer.Busy (q : Printer) : Prop := q.state = .printing ∨ q.state = .held

theorem State.tryBegin_busy (h : s.printer.Busy) : s.tryBegin = s := by
  rcases h with h | h
  all_goals simp only [State.tryBegin, h]

/-! ## Faults (R184) -/

/-- R184: the printer with its page abandoned and the reprint counted. -/
def Printer.faulted (q : Printer) (e : PrintEntry) (es : List PrintEntry) : Printer :=
  { q with
    queue := { e with reprints := min 255 (e.reprints + 1) } :: es, state := .faulted, handed := none
    deferred := none, decoder := none, holdTimer := none }

theorem State.printFault_of_head (head : s.printer.queue = e :: es) (c : PrinterCause) :
    s.printFault c = State.tryBegin { s with
      printer := s.printer.faulted e es
      outputs := s.outputs ++ [.engine .abandon]
      staged := s.staged ++ [.printerState c (some e.page) (some (min 255 (e.reprints + 1)))] } := by
  rw [State.printFault, head]
  rfl

theorem State.takePrinterJam_busy (h : s.printer.Busy) : s.takePrinterJam = s.printFault .jam := by
  rcases h with h | h
  all_goals simp only [State.takePrinterJam, h]

theorem State.takePrinterJam_faulted (h : s.printer.state = .faulted) : s.takePrinterJam = s := by
  simp only [State.takePrinterJam, h]

theorem State.takePrinterJam_free (free : ¬ s.printer.Busy) (h : s.printer.state ≠ .faulted) :
    s.takePrinterJam = s.stage (.printerState .jam none none) := by
  cases hs : s.printer.state with
  | faulted => exact absurd hs h
  | printing => exact absurd (.inl hs) free
  | held => exact absurd (.inr hs) free
  | idle | standby | waking => simp only [State.takePrinterJam, hs]

/-! ## READY (R183) -/

theorem State.takeReady_held_deferred {i : PrintItem} (h : s.printer.state = .held)
    (waits : s.printer.deferred = some i) : s.takeReady = { s with
      printer := { s.printer with
        readyPin := true, state := .printing, holdTimer := none, deferred := none, handed := some i }
      outputs := s.outputs ++ [.engine (.hand i)] } := by
  simp only [State.takeReady, if_pos h, waits]
  rfl

theorem State.takeReady_held (h : s.printer.state = .held) (nothing : s.printer.deferred = none) :
    s.takeReady = { s with printer := { s.printer with
      readyPin := true, state := .printing, holdTimer := none } } := by
  simp only [State.takeReady, if_pos h, State.setPrinter, nothing]

theorem State.takeReady_of_not_held (h : s.printer.state ≠ .held) :
    s.takeReady = State.tryBegin { s with printer := { s.printer with readyPin := true } } := if_neg h

theorem State.takeFall_printing (h : s.printer.state = .printing) : s.takeFall = { s with
    printer := { s.printer with readyPin := false, state := .held, holdTimer := some (s.timebase + 30000) } } :=
  if_pos h

theorem State.takeFall_of_not_printing (h : s.printer.state ≠ .printing) :
    s.takeFall = { s with printer := { s.printer with readyPin := false } } := if_neg h

/-! ## Paper (R186, R187) -/

theorem State.reportPaper_same {out : Bool} (h : s.printer.paperOut = out) :
    s.reportPaper out = { s with printer := { s.printer with paperPin := out } } := if_pos h

/-- R186: a change of level noted: the level, PAPER_OUT and the notice. -/
def State.paperNoted (s : State) (out : Bool) : State :=
  { s with
    printer := { s.printer with paperPin := out, paperOut := out }
    disp := { s.disp with flags := if out then s.disp.flags ||| 0x0020#16 else s.disp.flags &&& 0xFFDF#16 }
    staged := s.staged ++ [.printerState (if out then .paperOut else .paperPresent) none none] }

theorem State.reportPaper_change {out : Bool} (h : s.printer.paperOut ≠ out) :
    s.reportPaper out = State.takePaper { s with printer := { s.printer with paperPin := out } } out := if_neg h

theorem State.notePaper_paperPin (s : State) (out : Bool) :
    State.notePaper { s with printer := { s.printer with paperPin := out } } out = s.paperNoted out := by
  cases out <;> rfl

/-- R187: paper that runs out under a page is a fault of the page. -/
theorem State.reportPaper_fault (h : s.printer.paperOut ≠ true) (busy : s.printer.Busy) :
    s.reportPaper true = (s.paperNoted true).printFault .paper := by
  rw [State.reportPaper_change h, ← State.notePaper_paperPin]
  rcases busy with busy | busy
  all_goals simp only [State.takePaper, busy]

theorem State.reportPaper_begin {out : Bool} (h : s.printer.paperOut ≠ out)
    (noFault : ¬ (out = true ∧ s.printer.Busy)) : s.reportPaper out = (s.paperNoted out).tryBegin := by
  rw [State.reportPaper_change h, ← State.notePaper_paperPin]
  cases out with
  | false => simp only [State.takePaper]
  | true =>
    cases hs : s.printer.state with
    | printing => exact absurd ⟨rfl, .inl hs⟩ noFault
    | held => exact absurd ⟨rfl, .inr hs⟩ noFault
    | idle | standby | waking | faulted => simp only [State.takePaper, hs]

/-! ## The records (R188) -/

variable {r : LinkRecord}

theorem recPrintPause_badFormat (h : r.body ≠ []) : recPrintPause r s = s.refuse r .badFormat := if_neg h

theorem recPrintPause_paused (h : r.body = []) :
    recPrintPause r s = State.replyOk { s with printer := { s.printer with paused := true } } r
      (yesNo true ++ num1 s.printer.state.code ++ num1 s.printer.queue.length) := if_pos h

theorem recPrintResume_badFormat (h : r.body ≠ []) : recPrintResume r s = s.refuse r .badFormat := if_neg h

theorem State.beginPrinting_paused (s : State) : s.beginPrinting.printer.paused = s.printer.paused := by
  unfold State.beginPrinting
  split
  · rfl
  · split <;> rfl

/-- What waits begins, or the engine is woken for it, or it goes on waiting. -/
theorem State.tryBegin_cases (s : State) :
    s.tryBegin = s ∨ s.tryBegin = s.beginPrinting ∨ s.tryBegin = s.wakeEngine := by
  simp only [State.tryBegin]
  split
  case h_5 | h_6 => exact .inl rfl
  all_goals split <;> simp

/-- What begins leaves the mark of PRINT PAUSE as it was. -/
theorem State.tryBegin_paused (s : State) : s.tryBegin.printer.paused = s.printer.paused := by
  rcases s.tryBegin_cases with h | h | h
  · rw [h]
  · rw [h, State.beginPrinting_paused]
  · rw [h]
    cases ready : s.printer.readyPin
    · rw [State.wakeEngine_of_low ready]
    · rw [State.wakeEngine_of_high ready, State.beginPrinting_paused]

theorem recPrintResume_resumed (h : r.body = []) {u : State}
    (begins : State.tryBegin { s with printer := { s.printer with paused := false } } = u) :
    recPrintResume r s
      = u.replyOk r (yesNo false ++ num1 u.printer.state.code ++ num1 u.printer.queue.length) := by
  have paused : u.printer.paused = false := by rw [← begins, State.tryBegin_paused]
  have data : u.printer.data = yesNo false ++ num1 u.printer.state.code ++ num1 u.printer.queue.length := by
    rw [Printer.data, paused]
  rw [← data, ← begins]
  exact if_pos h

/-! ## Timers (R184, R189) -/

theorem State.advanceTo_printer (s : State) (t : Nat) : (s.advanceTo t).printer = s.printer := by
  obtain ⟨_, _, _, h⟩ := s.advanceTo_eq t
  rw [h]

theorem State.enterStandby_of_printer {q : Printer} (h : s.printer = q) : s.enterStandby = { s with
    printer := { q with state := .standby, standbyTimer := none }, outputs := s.outputs ++ [.engine .standby] } :=
  h ▸ rfl

theorem exec_printHoldTimerExpiry_running {d : Nat} (h : s.printer.holdTimer = some d) :
    exec .printHoldTimerExpiry s = .next (s.event (fun t => (t.advanceTo d).printFault .hold)) := by
  simp only [exec, execPrintHoldTimerExpiry, h]

theorem exec_printHoldTimerExpiry_stopped (h : s.printer.holdTimer = none) :
    exec .printHoldTimerExpiry s = .next s := by
  simp only [exec, execPrintHoldTimerExpiry, h]

theorem exec_standbyTimerExpiry_running {d : Nat} (h : s.printer.standbyTimer = some d) :
    exec .standbyTimerExpiry s = .next (s.event (fun t => (t.advanceTo d).enterStandby)) := by
  simp only [exec, execStandbyTimerExpiry, h]

theorem exec_standbyTimerExpiry_stopped (h : s.printer.standbyTimer = none) :
    exec .standbyTimerExpiry s = .next s := by
  simp only [exec, execStandbyTimerExpiry, h]

end

end Sys2Proof.Machine
end

section
/-! PROOFS. ReceivedPageIsRouted.lean: the statement about the routing of a received page. -/

namespace Sys2Proof.Proofs
open Sys2Proof.Machine

/-- Settles O58: one rule of `State.routePage` for each routing and for the full queue. -/
theorem receivedPageIsRouted : Obligations.ReceivedPageIsRouted := by
  intro s p n line told queued toHost
  have tells (u : State) (q full : Bool) : told u q full = u.stage (pageReceived p q full) :=
    congrArg u.stage (pageReceived_of_line line q full).symm
  refine ⟨fun forward => ?_, fun routing full => ?_, fun room => ⟨fun print => ?_, fun both => ?_⟩⟩
  · exact (State.routePage_forward forward).trans (tells _ _ _).symm
  · exact (State.routePage_full routing full).trans (tells _ _ _).symm
  · exact State.routePage_print print room
  · exact (State.routePage_both both room).trans (congrArg State.tryBegin (tells _ _ _).symm)

end Sys2Proof.Proofs
end

section
/-! PROOFS. PrintControl.lean: the statement about the print records, the engine's events and the printer's timers. -/

namespace Sys2Proof.Proofs
open Sys2Proof.Machine

/-- Settles O59: what waits begins by the state of the controller (the rules of `State.tryBegin`), a fault is one rule
(`State.printFault_of_head`), and each record, event and timer has a rule for each of its cases. -/
theorem printControl : Obligations.PrintControl := by
  refine ⟨?begins, ?events⟩
  case begins =>
    intro s p waits engine begun
    have begunOf : begun s s.beginPrinting := fun _ _ _ head page => State.beginPrinting_of_head head page
    refine ⟨fun awake => ⟨fun w ready => ?_, State.tryBegin_awake_not awake⟩,
      fun standby => ⟨fun w low => ?_, fun w high => ?_, State.tryBegin_standby_not standby⟩,
      fun faulted => ⟨fun ready paper => ?_, State.tryBegin_faulted_not faulted⟩, State.tryBegin_busy⟩
    · rwa [State.tryBegin_awake awake ⟨w, ready⟩]
    · rw [State.tryBegin_standby standby w, State.wakeEngine_of_low low]
    · rw [State.tryBegin_standby standby w, State.wakeEngine_of_high high]
      exact fun _ _ _ head page => State.beginPrinting_of_head head page
    · rwa [State.tryBegin_faulted faulted ready paper]
  case events =>
    intro s p faulted done busy
    have faults {u : State} {e : PrintEntry} {es : List PrintEntry} (c : PrinterCause)
        (head : u.printer.queue = e :: es) : u.printFault c = faulted u c e es := State.printFault_of_head head c
    refine ⟨fun r takes => ⟨fun body => ?_, fun body => ?_⟩, fun r takes => ⟨fun body => ?_, fun body => ?_⟩,
      fun held => ⟨fun i waits => ?_, fun nothing => ?_⟩, fun notHeld => ?_, fun printing => ?_, fun notPrinting => ?_,
      fun out => ⟨fun same => ?_, fun e es change isOut b head => ?_, fun change noFault => ?_⟩,
      fun e es b head => ?_, fun free notFaulted => ?_, fun isFaulted => ?_, fun d e es runs head => ?_,
      exec_printHoldTimerExpiry_stopped, fun d runs => ?_, exec_standbyTimerExpiry_stopped⟩
    · exact next_record_of_takes takes (recPrintPause_badFormat body)
    · exact next_record_of_takes takes (recPrintPause_paused body)
    · exact next_record_of_takes takes (recPrintResume_badFormat body)
    · exact next_record_of_takes takes (recPrintResume_resumed body rfl)
    · exact next_event_of_effect rfl (State.takeReady_held_deferred held waits)
    · exact next_event_of_effect rfl (State.takeReady_held held nothing)
    · exact next_event_of_effect rfl (State.takeReady_of_not_held notHeld)
    · exact next_event_of_effect rfl (State.takeFall_printing printing)
    · exact next_event_of_effect rfl (State.takeFall_of_not_printing notPrinting)
    · exact next_event_of_effect rfl (State.reportPaper_same same)
    · subst isOut
      exact next_event_of_effect rfl ((State.reportPaper_fault change b).trans (faults .paper head))
    · exact next_event_of_effect rfl (State.reportPaper_begin change noFault)
    · exact next_event_of_effect rfl ((State.takePrinterJam_busy b).trans (faults .jam head))
    · exact next_event_of_effect rfl (State.takePrinterJam_free free notFaulted)
    · exact next_event_of_effect rfl (State.takePrinterJam_faulted isFaulted)
    · have later : (s.advanceTo d).printer.queue = e :: es := by rw [State.advanceTo_printer]; exact head
      exact next_event_of_effect (exec_printHoldTimerExpiry_running runs) (faults .hold later)
    · exact next_event_of_effect (exec_standbyTimerExpiry_running runs)
        (State.enterStandby_of_printer (s.advanceTo_printer d))

end Sys2Proof.Proofs
end

section
/-! PROOFS. PrintFrame.lean: a holder dropped, with all that the freeing of its page brings about (R4, R8, R9, R17),
leaves the printer, the timebase and the settings as they were. -/

namespace Sys2Proof.Machine

/-- What the Print Controller goes by when a page has been printed: itself, the time and the settings. -/
def State.printView (s : State) : Printer × Nat × Settings := (s.printer, s.timebase, s.settings)

section
variable {s t : State} {id b : Nat}

@[simp] theorem State.printView_setStore (s : State) (x : Store) : (s.setStore x).printView = s.printView := rfl
@[simp] theorem State.printView_setScanCtx (s : State) (x : Option Coding) :
    (s.setScanCtx x).printView = s.printView := rfl
@[simp] theorem State.printView_putPage (s : State) (p : Page) : (s.putPage p).printView = s.printView := rfl
@[simp] theorem State.printView_raiseStoreLow (s : State) : s.raiseStoreLow.printView = s.printView := rfl

@[simp] theorem State.printView_resumeLine (s : State) (n : Line) : (s.resumeLine n).printView = s.printView := by
  unfold State.resumeLine
  split
  · split <;> rfl
  · rfl

@[simp] theorem State.printView_clearStoreLow (s : State) : s.clearStoreLow.printView = s.printView := by
  simp only [State.clearStoreLow, allLines, List.foldl_cons, List.foldl_nil, State.printView_resumeLine]
  rfl

@[simp] theorem State.printView_testLow (s : State) : s.testLow.printView = s.printView := by
  unfold State.testLow
  split <;> simp

@[simp] theorem State.printView_testHigh (s : State) : s.testHigh.printView = s.printView := by
  unfold State.testHigh
  split <;> simp

theorem State.printView_of_coderGrant (h : s.coderGrant = some (b, t)) : t.printView = s.printView := by
  unfold State.coderGrant at h
  split at h
  · obtain ⟨⟨block, st⟩, -, granted⟩ := Option.map_eq_some_iff.mp h
    cases granted
    simp
  · cases h

/-- The writing of coded bits grants blocks and writes the store; nothing else of it shows to the printer. -/
@[simp] theorem State.printView_writeChain (fuel : Nat) (s : State) (id : Nat) (bits : Bits) :
    (State.writeChain fuel s id bits).1.printView = s.printView := by
  induction fuel generalizing s bits with
  | zero => rfl
  | succ fuel ih =>
    rw [State.writeChain]
    split
    · rfl
    split
    · rfl
    split
    · rw [ih, State.printView_setStore]
    split
    · rfl
    · next granted => rw [ih, State.printView_putPage, State.printView_of_coderGrant granted]

@[simp] theorem State.printView_countLine (s : State) (id : Nat) : (s.countLine id).printView = s.printView := by
  unfold State.countLine
  split <;> simp

@[simp] theorem State.printView_writeScanHeld (s : State) : s.writeScanHeld.printView = s.printView := by
  unfold State.writeScanHeld
  split
  · rfl
  · dsimp only
    split <;> simp

@[simp] theorem State.printView_retakeScan (s : State) : s.retakeScan.printView = s.printView := by
  unfold State.retakeScan
  split <;> simp

@[simp] theorem State.printView_freePage (s : State) (p : Page) : (s.freePage p).printView = s.printView := by
  unfold State.freePage State.returnBlocks
  split <;> simp

theorem State.printView_dropHolder (s : State) (id : Nat) (h : Holder) :
    (s.dropHolder id h).printView = s.printView := by
  unfold State.dropHolder
  split
  · dsimp only
    split
    · split <;> simp
    · rfl
  · rfl

end

theorem State.printer_dropHolder (s : State) (id : Nat) (h : Holder) : (s.dropHolder id h).printer = s.printer :=
  congrArg Prod.fst (s.printView_dropHolder id h)

theorem State.timebase_dropHolder (s : State) (id : Nat) (h : Holder) : (s.dropHolder id h).timebase = s.timebase :=
  congrArg (·.2.1) (s.printView_dropHolder id h)

theorem State.settings_dropHolder (s : State) (id : Nat) (h : Holder) : (s.dropHolder id h).settings = s.settings :=
  congrArg (·.2.2) (s.printView_dropHolder id h)

end Sys2Proof.Machine
end

section
/-! PROOFS. LineAccepted.lean: the acceptance of an item (R182, R183, R189) and the statement about it. -/

namespace Sys2Proof.Machine

section
variable {s : State} {p : Page} {d : Decoder} {e : PrintEntry} {es : List PrintEntry} {i : PrintItem}

theorem exec_lineAccepted_handed (h : s.printer.handed = some i) :
    exec .lineAccepted s = .next (s.event (fun t => t.accept i)) := by
  simp only [exec, execLineAccepted, h]

theorem exec_lineAccepted_nothing (h : s.printer.handed = none) : exec .lineAccepted s = .next s := by
  simp only [exec, execLineAccepted, h]

theorem State.findPage_setPrinter (s : State) (x : Printer) (id : Nat) :
    (s.setPrinter x).findPage id = s.findPage id := rfl

/-! ## After a page start or a line -/

/-- R182: the decoder is asked for the next line, the accepted item no longer handed. -/
theorem State.accept_of_line (notEnd : i ≠ .pageEnd) (head : s.printer.queue = e :: es)
    (page : s.findPage e.page = some p) (dec : s.printer.decoder = some d) :
    s.accept i = State.nextItem { s with printer := { s.printer with handed := none } } e d p := by
  cases i with
  | pageEnd => exact absurd rfl notEnd
  | pageStart _ _ | line _ =>
    simp only [State.accept, State.setPrinter_printer, State.findPage_setPrinter, head, page, dec]
    rfl

theorem State.nextItem_end (ends : d.next (s.pageBits p) = none) :
    s.nextItem e d p = s.handNext .pageEnd := by
  rw [State.nextItem, ends]

theorem State.nextItem_line {l : DecodedLine} {d' : Decoder} {limit : Nat}
    (line : d.next (s.pageBits p) = some (l, d')) (latched : e.limit = some limit)
    (more : s.printer.linesHanded < limit) :
    s.nextItem e d p = State.handNext { s with printer := { s.printer with
      decoder := some d', linesHanded := s.printer.linesHanded + 1 } } (.line l.runs) := by
  simp only [State.nextItem, line, latched, Option.getD_some, if_pos more]
  rfl

/-- R182: past the limit the line is not handed. -/
theorem State.nextItem_truncated {l : DecodedLine} {d' : Decoder} {limit : Nat}
    (line : d.next (s.pageBits p) = some (l, d')) (latched : e.limit = some limit)
    (past : limit ≤ s.printer.linesHanded) :
    s.nextItem e d p = State.handNext { s with printer := { s.printer with truncated := true } } .pageEnd := by
  simp only [State.nextItem, line, latched, Option.getD_some, if_neg (Nat.not_lt.mpr past)]
  rfl

/-! ## After the page end -/

/-- R182: the printer with its head page printed. -/
def Printer.printed (q : Printer) (es : List PrintEntry) : Printer :=
  { q with handed := none, queue := es, state := .idle, decoder := none, holdTimer := none, deferred := none }

/-- R182: the page printed: the head off the queue, the PRINT holder dropped, PAGE_PRINTED queued. -/
def State.printed (s : State) (n : Line) (e : PrintEntry) (es : List PrintEntry) (p : Page) (d : Decoder) : State :=
  let u : State := State.dropHolder { s with printer := s.printer.printed es } p.id .print
  { u with staged := u.staged ++ [.pagePrinted p.id n p.tag p.state d.produced d.concealed s.printer.truncated
    e.reprints (u.findPage p.id).isNone] }

theorem State.accept_pageEnd {n : Line} (head : s.printer.queue = e :: es) (page : s.findPage e.page = some p)
    (dec : s.printer.decoder = some d) (line : p.line = some n) :
    s.accept .pageEnd = if es = [] then ((s.printed n e es p d).putFlag flagPrintBusy false).startStandby
      else (s.printed n e es p d).tryBegin := by
  simp only [State.accept, State.setPrinter_printer, head, State.findPage_setPrinter, State.pagePrinted, page, dec,
    line, Option.getD_some, State.pageInUse, Option.not_isSome]
  rfl

/-! ## Standby (R189) -/

theorem State.startStandby_delayed {q : Printer} {now delay : Nat} (printer : s.printer = q)
    (time : s.timebase = now) (set : s.settings.standbyDelay = delay) (runs : delay ≠ 0) :
    s.startStandby = { s with printer := { q with standbyTimer := some (now + delay * 1000) } } := by
  subst printer time set
  exact if_neg runs

/-- A delay of 0 hands STANDBY at once. -/
theorem State.startStandby_at_once {q : Printer} (printer : s.printer = q) (atOnce : s.settings.standbyDelay = 0) :
    s.startStandby = { s with
      printer := { q with state := .standby, standbyTimer := none }
      outputs := s.outputs ++ [.engine .standby] } :=
  (if_pos atOnce).trans (State.enterStandby_of_printer printer)

end

end Sys2Proof.Machine

namespace Sys2Proof.Proofs
open Sys2Proof.Machine

/-- Settles O60: what follows a page start or a line is the decoder's answer against the limit (the rules of
`State.nextItem`); what follows the page end is by the rest of the queue (`State.accept_pageEnd`), the dropped holder
leaving the printer as it was (`State.printView_dropHolder`). -/
theorem lineAccepted : Obligations.LineAccepted := by
  intro s e es p d head page dec done hand
  have accepts {i : PrintItem} {u : State} (handed : s.printer.handed = some i) (effect : s.accept i = u) : done u :=
    next_event_of_effect (exec_lineAccepted_handed handed) effect
  refine ⟨exec_lineAccepted_nothing, fun i limit handed notEnd latched => ?line, fun n handed line => ?pageEnd⟩
  case line =>
    have asks := State.accept_of_line notEnd head page dec
    refine ⟨fun ends => accepts handed (asks.trans (State.nextItem_end ends)),
      fun l d' next => ⟨fun more => ?_, fun past => ?_⟩⟩
    · exact accepts handed (asks.trans (State.nextItem_line next latched more))
    · exact accepts handed (asks.trans (State.nextItem_truncated next latched past))
  case pageEnd =>
    intro q u v idle
    have ends := State.accept_pageEnd head page dec line
    have printer : idle.printer = q := State.printer_dropHolder _ _ _
    have settings : idle.settings = s.settings := State.settings_dropHolder _ _ _
    have time : idle.timebase = s.timebase := State.timebase_dropHolder _ _ _
    refine ⟨fun more => ?_, fun last delay => ?_, fun last atOnce => ?_⟩
    · exact accepts handed (ends.trans (if_neg more))
    · have starts := State.startStandby_delayed printer time (congrArg (·.standbyDelay) settings) delay
      exact accepts handed ((ends.trans (if_pos last)).trans starts)
    · have starts := State.startStandby_at_once printer ((congrArg (·.standbyDelay) settings).trans atOnce)
      exact accepts handed ((ends.trans (if_pos last)).trans starts)

end Sys2Proof.Proofs
end

section
/-! PROOFS. PageReadRules.lean: the blocks copied for the host (R12, R191) and the records PAGE READ and PAGE
RELEASE. -/

namespace Sys2Proof.Machine

/-! ## A block copied (R12) -/

theorem unpackBytes_length (bs : List Byte) : (unpackBytes bs).length = 8 * bs.length := by
  induction bs with
  | nil => rfl
  | cons b bs ih =>
    have split : unpackBytes (b :: bs) = byteBits b ++ unpackBytes bs := rfl
    rw [split, List.length_append, byteBits_length, ih, List.length_cons]
    omega

theorem Memory.blockBits_length (m : List Host.Cell) (block used : Nat) :
    (Memory.blockBits m block used).length = used := by
  rw [Memory.blockBits, List.length_take, unpackBytes_length, Memory.readBytes, List.length_map, List.length_range,
    ceilDiv]
  omega

section
variable {s : State} {r : LinkRecord} {p : Page} {id first count : Nat}

theorem State.blockItem_bytes_length (s : State) (tag : Byte) (id : Nat) (e : ChainEntry) (pos : Nat) :
    (s.blockItem tag id (e, pos)).bytes.length = (e.used + 7) / 8 := by
  rw [State.blockItem, packBytes_length, Memory.blockBits_length]
  rfl

/-- The used bits stand first in the item's bytes; the rest of the last byte is fill (R26). -/
theorem State.blockItem_bits (s : State) (tag : Byte) (id : Nat) (e : ChainEntry) (pos : Nat) :
    (unpackBytes (s.blockItem tag id (e, pos)).bytes).take e.used
      = Memory.blockBits s.store.mem e.block e.used := by
  rw [State.blockItem, unpackBytes_packBytes]
  exact List.take_left' (Memory.blockBits_length _ _ _)

/-- R191: the items of the chain entries from position `first` on, `count` of them at most. -/
def State.readItems (s : State) (tag : Byte) (id : Nat) (p : Page) (first count : Nat) : List BlockItem :=
  ((p.chain.zipIdx.drop first).take count).map (s.blockItem tag id)

theorem State.readItems_length (tag : Byte) :
    (s.readItems tag id p first count).length = min count (p.chain.length - first) := by
  simp [State.readItems]

theorem State.readItems_getElem? {tag : Byte} {k : Nat} {x : BlockItem}
    (h : (s.readItems tag id p first count)[k]? = some x) :
    ∃ e, p.chain[first + k]? = some e ∧ x = s.blockItem tag id (e, first + k) := by
  obtain ⟨⟨e, pos⟩, entry, rfl⟩ := Option.map_eq_some_iff.mp (List.getElem?_map ▸ h)
  rw [List.getElem?_take, Option.ite_none_right_eq_some, List.getElem?_drop, List.getElem?_zipIdx] at entry
  obtain ⟨-, inside⟩ := entry
  obtain ⟨e', found, same⟩ := Option.map_eq_some_iff.mp inside
  obtain ⟨rfl, place⟩ := Prod.mk.inj same
  exact ⟨e', found, by rw [← place, Nat.zero_add]⟩

/-! ## PAGE READ (R191) -/

theorem parsePageRead_body (hid : id < 256) (hf : first < 65536) (hc : count < 256) :
    parsePageRead (num1 id ++ num2 first ++ num1 count) = some (id, first, count) := by
  have last : get1 (num1 count) = some (count, []) := by simpa using get1_num1 hc []
  simp only [parsePageRead, List.append_assoc, get1_num1 hid, get2_num2 hf, last, Option.bind_eq_bind,
    Option.bind_some, whole]

theorem recPageRead_noSuch (parses : parsePageRead r.body = some (id, first, count))
    (unused : s.findPage id = none) : recPageRead r s = s.refuse r .noSuch := by
  simp only [recPageRead, State.parsed_some parses, unused]

theorem recPageRead_state (parses : parsePageRead r.body = some (id, first, count))
    (found : s.findPage id = some p) (notHeld : Holder.forward ∉ p.holders) :
    recPageRead r s = s.refuse r .state := by
  simp only [recPageRead, State.parsed_some parses, found, if_pos notHeld]

theorem recPageRead_badValue (parses : parsePageRead r.body = some (id, first, count))
    (found : s.findPage id = some p) (held : Holder.forward ∈ p.holders)
    (bad : count = 0 ∨ 32 < count ∨ (p.chain ≠ [] ∧ p.chain.length ≤ first)) :
    recPageRead r s = s.refuse r .badValue := by
  have fails : count < 1 ∨ 32 < count ∨ (p.chain.length ≤ first ∧ p.chain ≠ []) := by
    rcases bad with zero | many | ⟨entries, past⟩
    · exact .inl (by omega)
    · exact .inr (.inl many)
    · exact .inr (.inr ⟨past, entries⟩)
  simp only [recPageRead, State.parsed_some parses, found, if_neg (not_not_intro held), if_pos fails]

/-- The tests passed: the items join the block-data queue, or the record is refused where they do not fit. -/
theorem recPageRead_read (parses : parsePageRead r.body = some (id, first, count))
    (found : s.findPage id = some p) (held : Holder.forward ∈ p.holders) (low : 1 ≤ count) (high : count ≤ 32)
    (inside : p.chain = [] ∨ first < p.chain.length) :
    recPageRead r s = if 32 < s.link.blocks.length + min count (p.chain.length - first) then s.refuse r .full
      else State.replyOk (s.setLink { s.link with blocks := s.link.blocks ++ s.readItems r.tag id p first count }) r
        (num1 (min count (p.chain.length - first)) ++ num2 p.chain.length) := by
  have passes : ¬ (count < 1 ∨ 32 < count ∨ (p.chain.length ≤ first ∧ p.chain ≠ [])) := by
    rintro (zero | many | ⟨past, entries⟩)
    · omega
    · omega
    · rcases inside with empty | before
      · exact entries empty
      · omega
  have size : ((p.chain.zipIdx.drop first).take count).length = min count (p.chain.length - first) := by simp
  simp only [recPageRead, State.parsed_some parses, found, if_neg (not_not_intro held), if_neg passes, size]
  rfl

/-! ## PAGE RELEASE (R191) -/

theorem recPageRelease_noSuch (parses : parseOne r.body = some id) (unused : s.findPage id = none) :
    recPageRelease r s = s.refuse r .noSuch := by
  simp only [recPageRelease, State.parsed_some parses, unused]

theorem recPageRelease_state (parses : parseOne r.body = some id) (found : s.findPage id = some p)
    (notHeld : Holder.forward ∉ p.holders) : recPageRelease r s = s.refuse r .state := by
  simp only [recPageRelease, State.parsed_some parses, found, if_pos notHeld]

theorem recPageRelease_released (parses : parseOne r.body = some id) (found : s.findPage id = some p)
    (held : Holder.forward ∈ p.holders) : recPageRelease r s
      = (s.dropHolder id .forward).replyOk r (yesNo ((s.dropHolder id .forward).findPage id).isNone) := by
  simp only [recPageRelease, State.parsed_some parses, found, if_neg (not_not_intro held), State.pageInUse,
    Option.not_isSome]

end

end Sys2Proof.Machine
end

section
/-! PROOFS. PageReadAndPageRelease.lean: the statement about PAGE READ and PAGE RELEASE. -/

namespace Sys2Proof.Proofs
open Sys2Proof.Machine

/-- Settles O39: each record's body is read as it was laid out and its tests come in R191's order; the items copied are
those of the chain entries asked for (`State.readItems_getElem?`), each with its block's used bits
(`State.blockItem_bits`). -/
theorem pageReadAndPageRelease : Obligations.PageReadAndPageRelease := by
  intro s r id hid refused
  refine ⟨fun first count takes hf hc body => ?read, fun takes body => ?release⟩
  case read =>
    have parses : parsePageRead r.body = some (id, first, count) := body ▸ parsePageRead_body hid hf hc
    refine ⟨fun unused => ?_,
      fun p found => ⟨fun notHeld => ?_, fun held => ⟨fun bad => ?_, fun low high inside => ?_⟩⟩⟩
    · exact next_record_of_takes takes (recPageRead_noSuch parses unused)
    · exact next_record_of_takes takes (recPageRead_state parses found notHeld)
    · exact next_record_of_takes takes (recPageRead_badValue parses found held bad)
    · intro n
      have reads := recPageRead_read (s := s.setLink s.link.take) parses found held low high inside
      refine ⟨fun full => ?_, fun room => ⟨s.readItems r.tag id p first count, State.readItems_length _,
        fun k x item => ?_, ?_⟩⟩
      · exact next_record_of_takes takes (reads.trans (if_pos full))
      · obtain ⟨e, entry, rfl⟩ := State.readItems_getElem? item
        exact ⟨e, entry, rfl, rfl, rfl, rfl, s.blockItem_bytes_length _ _ _ _, s.blockItem_bits _ _ _ _⟩
      · exact next_record_of_takes takes (reads.trans (if_neg (Nat.not_lt.mpr room)))
  case release =>
    have parses : parseOne r.body = some id := body ▸ parseOne_num1 hid
    refine ⟨fun unused => ?_, fun p found => ⟨fun notHeld => ?_, fun held => ?_⟩⟩
    · exact next_record_of_takes takes (recPageRelease_noSuch parses unused)
    · exact next_record_of_takes takes (recPageRelease_state parses found notHeld)
    · exact next_record_of_takes takes (recPageRelease_released (s := s.setLink s.link.take) parses found held)

end Sys2Proof.Proofs
end
